-- ==== Sys2Proof/Word.lean ====
section
/-! DEFINITION. The word types of the block (00_scope.md R8: all bit vectors are unsigned; R201: converted values are P_NUM). -/
namespace Sys2Proof

/-- A byte, 8 bits (R8). -/
abbrev Byte := BitVec 8

/-- A word, 16 bits (R8): a command opcode, the status word, a raw code, the error mask. -/
abbrev Word := BitVec 16

/-- A 7-bit bus address (R22, R52). -/
abbrev BusAddr := BitVec 7

/-- `P_NUM`, the type of converted values (R7, R201): rationals. A binary floating-point value is a rational too, so the
formats of `NumFormat` share this type. -/
abbrev Num := Rat

end Sys2Proof
end

