-- ==== Sys2Proof/Syntax.lean ====
section
/-! DEFINITION. The instructions: one constructor for each row of spec/opcode_table.json (30_encoding.md R83 for the ten
wire opcodes, R90 for the sixteen host operations), the host's request as it stands on the request port, and the reasons a
request is not an instruction. -/
namespace Sys2Proof

/-- The temperature unit (10_state.md R25). -/
inductive TempUnit where
  | celsius
  | fahrenheit
  deriving DecidableEq, Repr

/-- An operation of the block (R12). -/
inductive Instr where
  /-- Wire opcode 0x30A2 (R83). -/
  | cmdSoftReset
  /-- Wire opcode 0x0006 (R83). -/
  | cmdGeneralCallReset
  /-- Wire opcode 0x2400 (R83). -/
  | cmdSsHigh
  /-- Wire opcode 0x240B (R83). -/
  | cmdSsMedium
  /-- Wire opcode 0x2416 (R83). -/
  | cmdSsLow
  /-- Wire opcode 0x2C06 (R83). -/
  | cmdSsStretch0
  /-- Wire opcode 0x2C0D (R83). -/
  | cmdSsStretch1
  /-- Wire opcode 0x2C10 (R83). -/
  | cmdSsStretch2
  /-- Wire opcode 0xF32D (R83). -/
  | cmdStatusRead
  /-- Wire opcode 0x3041 (R83). -/
  | cmdStatusClear
  /-- `IS_CONNECTED()` (R164). -/
  | isConnected
  /-- `BEGIN()` (R167). -/
  | begin
  /-- `SET_DEFAULTS(use_crc, celsius)` (R160). -/
  | setDefaults (useCrc celsius : Bool)
  /-- `RESET(cmd)` (R170). -/
  | reset (cmd : Word)
  /-- `SINGLE_SHOT_READ(cmd)` (R175). -/
  | singleShotRead (cmd : Word)
  /-- `READ_STATUS()` (R182). -/
  | readStatus
  /-- `CLEAR_STATUS()` (R188). -/
  | clearStatus
  /-- `GET_LAST_ERROR()` (R212). -/
  | getLastError
  /-- `ENCODE(cmd)` (R110). -/
  | encode (cmd : Word)
  /-- `CHECKSUM(L)` (R116). -/
  | checksum (data : List Byte)
  /-- `VERIFY_GROUP([g0, g1, g2])` (R120). -/
  | verifyGroup (g0 g1 g2 : Byte)
  /-- `DECODE_STATUS([f0, f1, f2])` (R122). -/
  | decodeStatus (f0 f1 f2 : Byte)
  /-- `DECODE_MEAS(check, [f0, ..., f5])` (R124). -/
  | decodeMeas (check : Bool) (f0 f1 f2 f3 f4 f5 : Byte)
  /-- `CONVERT(unit, t, h)` (R200). -/
  | convert (unit : TempUnit) (t h : Word)
  /-- `WRITE_COMMAND(cmd)` (R145). -/
  | writeCommand (cmd : Word)
  /-- `READ_BYTES(n)` (R148). -/
  | readBytes (n : Nat)
  deriving DecidableEq, Repr

/-- The two request formats: a host operation (R90), or a bare wire opcode (R80; DESIGN CHOICE, log 2). -/
inductive Format where
  | hostop
  | cmd16
  deriving DecidableEq, Repr

/-- A request as it stands on the host's request port: its format and its bytes, first byte first (R80, R90; log 3). -/
structure Request where
  format : Format
  bytes  : List Byte
  deriving DecidableEq, Repr

/-- Why a request is refused (R92, R90, R83). A refused request changes no state and makes no transport call: safe. -/
inductive RequestError where
  /-- A request with no byte at all (log 3). -/
  | empty
  /-- The selector is not in the table of R90 (R92). -/
  | unknownSelector (op : Byte)
  /-- The number of operand bytes is not what the selector fixes (R90; log 3). -/
  | wrongLength (op : Byte)
  /-- A `cfg` byte with any of bits 7:2 set (R91, R92). -/
  | reservedCfgBits (cfg : Byte)
  /-- A `check` byte other than 0 or 1 (R92). -/
  | badCheck (b : Byte)
  /-- A `unit` byte other than 0 or 1 (R92). -/
  | badUnit (b : Byte)
  /-- `READ_BYTES` with `n` above `P_RXBUF_LEN` (R92, D20). -/
  | readTooLong (n : Nat)
  /-- A CMD16 request that is not two bytes (R80; log 3). -/
  | wrongFrameLength
  /-- A CMD16 word outside the closed set of R83 (R53; log 2). -/
  | unknownOpcode (cmd : Word)
  deriving DecidableEq, Repr

end Sys2Proof
end

