-- ==== Sys2Proof/Config.lean ====
section
/-! DEFINITION. The implementation parameters of 00_scope.md R7 and the free values. The parameters a model may quantify over
are plain data (`Params`), held in State and written by no step (log 11); the others are constants here. -/
namespace Sys2Proof

/-- `P_RESET_FIRST_WRITE` (R7, R170, D7): what RESET does with the result of its first write. -/
inductive FirstWrite where
  | ignore
  | and
  | abort
  deriving DecidableEq, Repr

/-- How a rounded format picks an integer significand (R201 names none; PRESUMED: the four binary directions, log 16). -/
inductive RoundingMode where
  | nearestEven
  | towardZero
  | up
  | down
  deriving DecidableEq, Repr

/-- `P_NUM` (R201, D11): exact rationals, or a binary format of `precision` significand bits, rounded after each operation. -/
inductive NumFormat where
  | exact
  | binary (precision : Nat) (mode : RoundingMode)
  deriving DecidableEq, Repr

/-- The parameters of R7 that stay open to a claim. -/
structure Params where
  /-- `P_SHORT_WRITE_FAILS` (D6). -/
  shortWriteFails : Bool
  /-- `P_RESET_FIRST_WRITE` (D7). -/
  resetFirstWrite : FirstWrite
  /-- `P_NUM` (D11). -/
  num : NumFormat
  /-- `P_RESET_USE_CRC` (D4). -/
  resetUseCrc : Bool
  /-- `P_RESET_UNIT` (D4). -/
  resetUnit : TempUnit
  deriving DecidableEq, Repr

/-- The values R7 takes. -/
def Params.default : Params :=
  { shortWriteFails := false, resetFirstWrite := .ignore, num := .exact, resetUseCrc := true, resetUnit := .celsius }

/-- `P_RXBUF_LEN` (R7, R51, D20). -/
abbrev Config.rxBufLen : Nat := 6

/-- `P_BUS_HZ` (R7, R167). -/
abbrev Config.busHz : Nat := 100000

/-- `P_ADDR` of State.reset: the spec's only example value (R22: `construct(0x44)`; DESIGN CHOICE, log 8). -/
def Config.pAddr : BusAddr := 0x44#7

/-- The transport's answer number `k` where no answer is scripted (R11, D15: the transport is an oracle). Nothing constrains
it; a byte answer takes it modulo 256, which again is any byte (log 4). -/
opaque Config.freeAnswer : Nat → Nat

/-- The value an unwritten reading register holds, by the number of its draw (10_state.md R26, R27, D12: an unconstrained draw).
Nothing constrains it (log 10). -/
opaque Config.freeReading : Nat → Num

end Sys2Proof
end

