-- ==== Sys2Proof/Machine/Operands.lean ====
section
/-! DEFINITION. Operand forms: 16-bit words assembled from bytes, high byte first (30_encoding.md R84, 20_memory.md R55 to
R57), the operand bytes of R91 and R92, and the opcode constants of R83. -/
namespace Sys2Proof.Machine

/-- A word from two bytes, the first the more significant (R84). -/
def joinWord (hi lo : Byte) : Word := hi ++ lo

/-- `w[15:8]` (R80). -/
def hiByte (w : Word) : Byte := w.extractLsb' 8 8

/-- `w[7:0]` (R80). -/
def loByte (w : Word) : Byte := w.extractLsb' 0 8

/-- `cfg` bit 0: `use_crc` (R91). -/
def cfgUseCrc (cfg : Byte) : Bool := cfg.getLsbD 0

/-- `cfg` bit 1: `celsius` (R91). -/
def cfgCelsius (cfg : Byte) : Bool := cfg.getLsbD 1

/-- `cfg` bits 7:2, which a request must leave 0 (R91, R92). -/
def cfgReserved (cfg : Byte) : Byte := cfg >>> 2

/-- The `cfg` byte of `SET_DEFAULTS` (R91). -/
def cfgByte (useCrc celsius : Bool) : Byte :=
  (if useCrc then 0x01#8 else 0#8) ||| (if celsius then 0x02#8 else 0#8)

/-- A Boolean operand byte: 0 or 1, any other value is no Boolean (R92). -/
def boolOperand (b : Byte) : Option Bool :=
  match b.toNat with
  | 0 => some false
  | 1 => some true
  | _ => none

/-- The byte of a Boolean operand (R90: `check` is 0 or 1). -/
def boolByte (b : Bool) : Byte := if b then 1#8 else 0#8

/-- The `unit` bit: 1 = Celsius, 0 = Fahrenheit (R25, R200, D18). -/
def unitOfBool (b : Bool) : TempUnit := if b then .celsius else .fahrenheit

/-- The `unit` operand byte of `CONVERT` (R90). -/
def unitByte : TempUnit → Byte
  | .celsius => 1#8
  | .fahrenheit => 0#8

/-- `CMD_SOFT_RESET` (R83). -/
def opSoftReset : Word := 0x30A2#16
/-- `CMD_GENERAL_CALL_RESET` (R83). -/
def opGeneralCallReset : Word := 0x0006#16
/-- `CMD_SS_HIGH` (R83). -/
def opSsHigh : Word := 0x2400#16
/-- `CMD_SS_MEDIUM` (R83). -/
def opSsMedium : Word := 0x240B#16
/-- `CMD_SS_LOW` (R83). -/
def opSsLow : Word := 0x2416#16
/-- `CMD_SS_STRETCH_0` (R83). -/
def opSsStretch0 : Word := 0x2C06#16
/-- `CMD_SS_STRETCH_1` (R83). -/
def opSsStretch1 : Word := 0x2C0D#16
/-- `CMD_SS_STRETCH_2` (R83). -/
def opSsStretch2 : Word := 0x2C10#16
/-- `CMD_STATUS_READ` (R83). -/
def opStatusRead : Word := 0xF32D#16
/-- `CMD_STATUS_CLEAR` (R83). -/
def opStatusClear : Word := 0x3041#16

/-- The opcodes `RESET` accepts (R86, R170). -/
def isResetOpcode (cmd : Word) : Bool := cmd == opSoftReset || cmd == opGeneralCallReset

/-- `SS_DELAY` in time units (R176): defined on exactly the opcodes `SINGLE_SHOT_READ` accepts (R86, R175). -/
def ssDelay (cmd : Word) : Option Nat :=
  if cmd = opSsHigh then some 16
  else if cmd = opSsMedium then some 7
  else if cmd = opSsLow then some 5
  else none

end Sys2Proof.Machine
end

