-- ==== Sys2Proof/WellFormed.lean ====
section
/-! DEFINITION. Which instructions a request can carry (30_encoding.md R90, R92). Every other operand is well formed by its
type. -/
namespace Sys2Proof

/-- `CHECKSUM` carries at most 255 data bytes (R90: `n` = 0 to 255), `READ_BYTES` asks for at most `P_RXBUF_LEN` (R92). -/
def Instr.WellFormed : Instr → Bool
  | .checksum data => decide (data.length ≤ 255)
  | .readBytes n => decide (n ≤ Config.rxBufLen)
  | .cmdSoftReset | .cmdGeneralCallReset | .cmdSsHigh | .cmdSsMedium | .cmdSsLow
  | .cmdSsStretch0 | .cmdSsStretch1 | .cmdSsStretch2 | .cmdStatusRead | .cmdStatusClear
  | .isConnected | .begin | .setDefaults _ _ | .reset _ | .singleShotRead _ | .readStatus | .clearStatus
  | .getLastError | .encode _ | .verifyGroup _ _ _ | .decodeStatus _ _ _ | .decodeMeas _ _ _ _ _ _ _
  | .convert _ _ _ | .writeCommand _ => true

/-- A numeric format the rules can be read in: a rounded format holds every 16-bit raw code exactly (R201; log 16). -/
def Params.WellFormed (p : Params) : Bool :=
  match p.num with
  | .exact => true
  | .binary precision _ => decide (16 ≤ precision)

end Sys2Proof
end

