-- ==== Sys2Proof/Decode.lean ====
section
/-! DEFINITION. The decoder, total on every request and refusing by name, and the encoder written from the same tables
(30_encoding.md R80, R83, R90 to R92). -/
namespace Sys2Proof
open Sys2Proof.Machine

/-- A selector with no operand byte. -/
def operands0 (op : Byte) (i : Instr) : List Byte → Except RequestError Instr
  | [] => .ok i
  | _ => .error (.wrongLength op)

/-- A selector with one operand byte. -/
def operands1 (op : Byte) (f : Byte → Except RequestError Instr) : List Byte → Except RequestError Instr
  | [a] => f a
  | _ => .error (.wrongLength op)

/-- A selector whose two operand bytes are `cmd[15:8]`, `cmd[7:0]`. -/
def operandsCmd (op : Byte) (f : Word → Instr) : List Byte → Except RequestError Instr
  | [h, l] => .ok (f (joinWord h l))
  | _ => .error (.wrongLength op)

/-- A selector with a three-byte group as operand. -/
def operandsGroup (op : Byte) (f : Byte → Byte → Byte → Instr) : List Byte → Except RequestError Instr
  | [a, b, c] => .ok (f a b c)
  | _ => .error (.wrongLength op)

/-- The `cfg` operand of `SET_DEFAULTS` (R91, R92). -/
def decodeCfg (cfg : Byte) : Except RequestError Instr :=
  if cfgReserved cfg = 0#8 then .ok (.setDefaults (cfgUseCrc cfg) (cfgCelsius cfg))
  else .error (.reservedCfgBits cfg)

/-- The `n` operand of `READ_BYTES` (R92). -/
def decodeCount (n : Byte) : Except RequestError Instr :=
  if n.toNat ≤ Config.rxBufLen then .ok (.readBytes n.toNat) else .error (.readTooLong n.toNat)

/-- The operands of `CHECKSUM`: `n`, then `n` data bytes (R90). -/
def decodeChecksum (op : Byte) : List Byte → Except RequestError Instr
  | n :: data => if data.length = n.toNat then .ok (.checksum data) else .error (.wrongLength op)
  | [] => .error (.wrongLength op)

/-- The operands of `DECODE_MEAS`: `check`, then the frame (R90, R92). -/
def decodeMeasOperands (op : Byte) : List Byte → Except RequestError Instr
  | [c, f0, f1, f2, f3, f4, f5] =>
    match boolOperand c with
    | some check => .ok (.decodeMeas check f0 f1 f2 f3 f4 f5)
    | none => .error (.badCheck c)
  | _ => .error (.wrongLength op)

/-- The operands of `CONVERT`: `unit`, then `t` and `h`, high byte first (R90, R92). -/
def decodeConvertOperands (op : Byte) : List Byte → Except RequestError Instr
  | [u, t1, t0, h1, h0] =>
    match boolOperand u with
    | some b => .ok (.convert (unitOfBool b) (joinWord t1 t0) (joinWord h1 h0))
    | none => .error (.badUnit u)
  | _ => .error (.wrongLength op)

/-- Format `HOSTOP`: the selector's row of the table of R90, given the bytes after it. -/
def decodeHostOp (op : Byte) (args : List Byte) : Except RequestError Instr :=
  match op.toNat with
  | 0x00 => operands0 op .isConnected args
  | 0x01 => operands0 op .begin args
  | 0x02 => operands1 op decodeCfg args
  | 0x03 => operandsCmd op .reset args
  | 0x04 => operandsCmd op .singleShotRead args
  | 0x05 => operands0 op .readStatus args
  | 0x06 => operands0 op .clearStatus args
  | 0x07 => operands0 op .getLastError args
  | 0x10 => operandsCmd op .encode args
  | 0x11 => decodeChecksum op args
  | 0x12 => operandsGroup op .verifyGroup args
  | 0x13 => operandsGroup op .decodeStatus args
  | 0x14 => decodeMeasOperands op args
  | 0x15 => decodeConvertOperands op args
  | 0x20 => operandsCmd op .writeCommand args
  | 0x21 => operands1 op decodeCount args
  | _ => .error (.unknownSelector op)

/-- Format `CMD16`: the whole 16-bit constant of R83 (R80: match = the opcode, mask = 0xFFFF). -/
def decodeOpcode (cmd : Word) : Except RequestError Instr :=
  match cmd.toNat with
  | 0x30A2 => .ok .cmdSoftReset
  | 0x0006 => .ok .cmdGeneralCallReset
  | 0x2400 => .ok .cmdSsHigh
  | 0x240B => .ok .cmdSsMedium
  | 0x2416 => .ok .cmdSsLow
  | 0x2C06 => .ok .cmdSsStretch0
  | 0x2C0D => .ok .cmdSsStretch1
  | 0x2C10 => .ok .cmdSsStretch2
  | 0xF32D => .ok .cmdStatusRead
  | 0x3041 => .ok .cmdStatusClear
  | _ => .error (.unknownOpcode cmd)

/-- The instruction a request carries, or the reason it carries none. -/
def decode (r : Request) : Except RequestError Instr :=
  match r.format with
  | .hostop =>
    match r.bytes with
    | [] => .error .empty
    | op :: args => decodeHostOp op args
  | .cmd16 =>
    match r.bytes with
    | [h, l] => decodeOpcode (joinWord h l)
    | _ => .error .wrongFrameLength

/-- A `HOSTOP` request from its selector and operand bytes. -/
def hostRequest (op : Byte) (args : List Byte) : Request := { format := .hostop, bytes := op :: args }

/-- A `CMD16` request: the frame of R80, high byte first. -/
def opcodeRequest (cmd : Word) : Request := { format := .cmd16, bytes := [hiByte cmd, loByte cmd] }

/-- The request that carries an instruction (R83, R90, R91). -/
def encode : Instr → Request
  | .cmdSoftReset => opcodeRequest opSoftReset
  | .cmdGeneralCallReset => opcodeRequest opGeneralCallReset
  | .cmdSsHigh => opcodeRequest opSsHigh
  | .cmdSsMedium => opcodeRequest opSsMedium
  | .cmdSsLow => opcodeRequest opSsLow
  | .cmdSsStretch0 => opcodeRequest opSsStretch0
  | .cmdSsStretch1 => opcodeRequest opSsStretch1
  | .cmdSsStretch2 => opcodeRequest opSsStretch2
  | .cmdStatusRead => opcodeRequest opStatusRead
  | .cmdStatusClear => opcodeRequest opStatusClear
  | .isConnected => hostRequest 0x00#8 []
  | .begin => hostRequest 0x01#8 []
  | .setDefaults useCrc celsius => hostRequest 0x02#8 [cfgByte useCrc celsius]
  | .reset cmd => hostRequest 0x03#8 [hiByte cmd, loByte cmd]
  | .singleShotRead cmd => hostRequest 0x04#8 [hiByte cmd, loByte cmd]
  | .readStatus => hostRequest 0x05#8 []
  | .clearStatus => hostRequest 0x06#8 []
  | .getLastError => hostRequest 0x07#8 []
  | .encode cmd => hostRequest 0x10#8 [hiByte cmd, loByte cmd]
  | .checksum data => hostRequest 0x11#8 (BitVec.ofNat 8 data.length :: data)
  | .verifyGroup g0 g1 g2 => hostRequest 0x12#8 [g0, g1, g2]
  | .decodeStatus f0 f1 f2 => hostRequest 0x13#8 [f0, f1, f2]
  | .decodeMeas check f0 f1 f2 f3 f4 f5 => hostRequest 0x14#8 [boolByte check, f0, f1, f2, f3, f4, f5]
  | .convert unit t h => hostRequest 0x15#8 [unitByte unit, hiByte t, loByte t, hiByte h, loByte h]
  | .writeCommand cmd => hostRequest 0x20#8 [hiByte cmd, loByte cmd]
  | .readBytes n => hostRequest 0x21#8 [BitVec.ofNat 8 n]

/-- How many operand bytes a selector fixes (R90); for `CHECKSUM` the byte after the selector gives the rest. -/
def operandCount (op next : Byte) : Nat :=
  match op.toNat with
  | 0x02 | 0x21 => 1
  | 0x03 | 0x04 | 0x10 | 0x20 => 2
  | 0x11 => 1 + next.toNat
  | 0x12 | 0x13 => 3
  | 0x14 => 7
  | 0x15 => 5
  | _ => 0

/-- Byte `k` of a number laid out first byte lowest, as spec/opcode_table.json numbers a `HOSTOP` request's bits. -/
def byteAt (w k : Nat) : Byte := BitVec.ofNat 8 (w >>> (8 * k))

/-- The request whose bits the table numbers as `w`, `nbits` of them, every further bit 0. A 16-bit row is one `CMD16` word,
sent high byte first (R80); a `HOSTOP` row is bytes, the selector first, as many as the selector fixes (R90). -/
def tableRequest (nbits w : Nat) : Request :=
  let v := w % 2 ^ nbits
  if nbits = 16 then opcodeRequest (BitVec.ofNat 16 v)
  else hostRequest (byteAt v 0)
    ((List.range (operandCount (byteAt v 0) (byteAt v 1))).map (fun k => byteAt v (k + 1)))

/-- The instruction the decoder reads from a row of spec/opcode_table.json. -/
def decodeTableWord (nbits w : Nat) : Option Instr :=
  match decode (tableRequest nbits w) with
  | .ok i => some i
  | .error _ => none

end Sys2Proof
end

