-- ==== Sys2Proof/Machine/State.lean ====
section
/-! DEFINITION. The state: the device handle of 10_state.md (R22 to R27), its working registers (R28, R29), the
implementation parameters (00_scope.md R7), and the host and transport as the block sees them (R6, R11). Plain data. -/
namespace Sys2Proof.Machine

/-- The nine error flags (10_state.md R23). -/
inductive Flag where
  | transmissionLen
  | endTransmission
  | requestLen
  | writeLen
  | wrongSensorId
  | fmTimeout
  | notConnected
  | crcCheck
  | wrongCommand
  deriving DecidableEq, Repr

/-- One entry of a trace (00_scope.md R12): a transport call with its answer (R10, R140), or a `Delay` (R176). -/
inductive Event where
  | begin
  | setClock (hz : Nat)
  | beginTransmission (a : BusAddr)
  | write (bytes : List Byte) (accepted : Nat)
  | endTransmission (status : Nat)
  | requestFrom (a : BusAddr) (n available : Nat)
  | read (b : Byte)
  | delay (units : Nat)
  deriving DecidableEq, Repr

/-- The result an operation delivers to the host (30_encoding.md R90). Where the Boolean of the result is false the values
beside it are not delivered (R177, U4; log 12), so they stand under an Option. -/
inductive Result where
  /-- No result: `SET_DEFAULTS`, and before the first operation. -/
  | none
  | bool (b : Bool)
  /-- `SINGLE_SHOT_READ` and `CONVERT`: true with temperature and humidity, or false. -/
  | reading (values : Option (Num × Num))
  | word (w : Word)
  | mask (m : BitVec 16)
  /-- `ENCODE`: the two frame bytes, the first on the wire first. -/
  | frame (b0 b1 : Byte)
  | byte (b : Byte)
  /-- `DECODE_STATUS`: true with the word, or false. -/
  | status (word : Option Word)
  /-- `DECODE_MEAS`: true with `t` and `h`, or false. -/
  | codes (values : Option (Word × Word))
  /-- `READ_BYTES`: true with the bytes, or false. -/
  | bytes (values : Option (List Byte))
  deriving DecidableEq, Repr

/-- The transport oracle as it stands (R11, R140; log 4, log 5) and what was asked of it (R12; log 13). -/
structure Bus where
  /-- The answers the transport gives next, oldest first; when there is none left, the answer is a free value. -/
  script : List Nat
  /-- How many answers the block has taken; the index of the free answers. -/
  answered : Nat
  /-- The number of the first answer that never comes (R142); none: every call is answered. -/
  silentFrom : Option Nat
  /-- The transport calls and delays so far, oldest first. -/
  trace : List Event
  deriving DecidableEq, Repr

/-- What a reading register holds (R26, R27): unwritten since reset/construct, when its value is the free draw of the number
given (log 10), or the value a successful read wrote. -/
inductive Reading where
  | unwritten (draw : Nat)
  | written (value : Num)
  deriving DecidableEq, Repr

structure State where
  /-- `ADDR` (R22). -/
  addr : BusAddr
  /-- `ERR` (R23). -/
  err : BitVec 16
  /-- `USE_CRC` (R24). -/
  useCrc : Bool
  /-- `UNIT` (R25). -/
  unit : TempUnit
  /-- `TEMPERATURE` (R26). -/
  temperature : Reading
  /-- `HUMIDITY` (R27). -/
  humidity : Reading
  /-- How many draws were taken for unwritten readings: the number of the next one (log 10). -/
  draws : Nat
  /-- `CRCR` (R28). -/
  crcr : Byte
  /-- `CB` (R50). -/
  cb : Vector Byte 2
  /-- `RB` (R51), `P_RXBUF_LEN` bytes. -/
  rb : Vector Byte 6
  /-- The implementation parameters (R7; log 11). -/
  params : Params
  /-- The transport. -/
  bus : Bus
  /-- The host's pending requests, oldest first (log 1). -/
  requests : List Request
  /-- The reset input with its strap value, when the outside asserts it (R90, R250; log 14). -/
  resetInput : Option BusAddr
  /-- What the last operation returned to the host (log 13). -/
  result : Result
  deriving DecidableEq, Repr

/-- What a step is to do: the reset input first (R250), then the oldest request (R6), else nothing. -/
inductive Input where
  | resetAsserted (a : BusAddr)
  | request (r : Request)
  | idle
  deriving DecidableEq, Repr

/-- Why the machine stops. -/
inductive Fault where
  /-- A transport call that never answers (R142, U5): the operation has no final state. Raised by every operation that calls
  the transport, and only when `silentFrom` says the transport has fallen silent. Safe. -/
  | transportHang
  deriving DecidableEq, Repr

/-- Why a request gets no meaning. -/
inductive Refusal where
  /-- An instruction the model has no meaning for. No arm of `exec` answers it. Safe. -/
  | notModelled (mnemonic : String)
  /-- The block refuses the request (R92, U10, U19). Raised by the step when the decoder refuses, and by `READ_BYTES` with a
  count above `P_RXBUF_LEN`. Safe. -/
  | malformed (e : RequestError)
  deriving DecidableEq, Repr

/-- The machine right after reset/construct with `P_ADDR` (R36, R250). `CRCR`, `CB` and `RB` are unspecified there: zero
(DESIGN CHOICE, log 6). The readings are unwritten and hold the first two draws (log 10). The transport
answers freely, no request is pending (log 1, log 4, log 5). -/
def State.reset : State :=
  { addr := Config.pAddr
    err := 0#16
    useCrc := Params.default.resetUseCrc
    unit := Params.default.resetUnit
    temperature := .unwritten 0
    humidity := .unwritten 1
    draws := 2
    crcr := 0#8
    cb := #v[0#8, 0#8]
    rb := #v[0#8, 0#8, 0#8, 0#8, 0#8, 0#8]
    params := Params.default
    bus := { script := [], answered := 0, silentFrom := none, trace := [] }
    requests := []
    resetInput := none
    result := .none }

end Sys2Proof.Machine
end

