-- ==== Sys2Proof/Machine/Flags.lean ====
section
/-! DEFINITION. The error mask: the bit of each flag, `raise F`, and the drain (10_state.md R23,
44_error_accumulator.md R210, R212). -/
namespace Sys2Proof.Machine

/-- `P_ERRBIT` (R23, D3): the bit of each flag, in the order of the table. -/
def errBit : Flag → Nat
  | .transmissionLen => 0
  | .endTransmission => 1
  | .requestLen => 2
  | .writeLen => 3
  | .wrongSensorId => 4
  | .fmTimeout => 5
  | .notConnected => 6
  | .crcCheck => 7
  | .wrongCommand => 8

/-- The mask value of a flag (R23): `1 << P_ERRBIT(F)`. -/
def flagMask (f : Flag) : BitVec 16 := 1#16 <<< errBit f

/-- `raise F` (R210): OR the flag into the mask and go on. It is the block's only failure entry (R220): nothing is saved, no
mode changes, control goes nowhere. -/
def raise (f : Flag) (s : State) : State := { s with err := s.err ||| flagMask f }

/-- `raise F` under a condition of the pseudocode. -/
def raiseIf (c : Prop) [Decidable c] (f : Flag) (s : State) : State := if c then raise f s else s

/-- The drain (R212, R224): all flags cleared. It is the one way recorded failures are acknowledged. -/
def clearErr (s : State) : State := { s with err := 0#16 }

end Sys2Proof.Machine
end

