-- ==== Sys2Proof/Machine/Ops.lean ====
section
/-! DEFINITION. The shared operations: the seven transport calls (41_transport_ops.md R140), the delay (R176), the two buffers
(20_memory.md R50, R51), the delivery of a result (R9), reset/construct (R250), and what the host sees of the readings
(R26). -/
namespace Sys2Proof.Machine

/-- Answer number `j` from now that the transport gives (R11): the script's, or a free value (log 4). -/
def busAnswer (b : Bus) (j : Nat) : Nat :=
  match b.script[j]? with
  | some n => n
  | none => Config.freeAnswer (b.answered + j)

/-- The same answer read as a byte, for `T.read` (R140: any byte; log 4). -/
def busByte (b : Bus) (j : Nat) : Byte := BitVec.ofNat 8 (busAnswer b j)

/-- Append one event to the trace (R12). -/
def emit (e : Event) (s : State) : State :=
  { s with bus := { s.bus with trace := s.bus.trace ++ [e] } }

/-- Take the transport's next answer. -/
def takeAnswer (s : State) : State :=
  { s with bus := { s.bus with script := s.bus.script.tail, answered := s.bus.answered + 1 } }

/-- `T.begin()` (R140). -/
def tBegin (s : State) : State := emit .begin s

/-- `T.set_clock(hz)` (R140). -/
def tSetClock (hz : Nat) (s : State) : State := emit (.setClock hz) s

/-- `T.begin_transmission(a)` (R140). -/
def tBeginTransmission (a : BusAddr) (s : State) : State := emit (.beginTransmission a) s

/-- `T.write(L) -> k` (R140). -/
def tWrite (bytes : List Byte) (s : State) : Nat × State :=
  let k := busAnswer s.bus 0
  (k, emit (.write bytes k) (takeAnswer s))

/-- `T.end_transmission() -> s` (R140). -/
def tEndTransmission (s : State) : Nat × State :=
  let st := busAnswer s.bus 0
  (st, emit (.endTransmission st) (takeAnswer s))

/-- `T.request_from(a, n) -> k` (R140). -/
def tRequestFrom (a : BusAddr) (n : Nat) (s : State) : Nat × State :=
  let k := busAnswer s.bus 0
  (k, emit (.requestFrom a n k) (takeAnswer s))

/-- `T.read() -> b` (R140). -/
def tRead (s : State) : Byte × State :=
  let b := busByte s.bus 0
  (b, emit (.read b) (takeAnswer s))

/-- `Delay(k)` (R176): an event of the trace; no time passes in the model (R270; log 17). -/
def delay (units : Nat) (s : State) : State := emit (.delay units) s

/-- `MemWrite(CB+0, 2, [b0, b1])` (R9, R50). -/
def writeCB (b0 b1 : Byte) (s : State) : State := { s with cb := #v[b0, b1] }

/-- `MemRead(CB+0, 2)` (R9, R50). -/
def readCB (s : State) : List Byte := s.cb.toList

/-- `MemWrite(RB+i, 1, [b])` (R9, R51). -/
def writeRB (i : Nat) (b : Byte) (s : State) : State := { s with rb := s.rb.setIfInBounds i b }

/-- `MemRead(RB+0, n)` (R9, R51). -/
def readRB (n : Nat) (s : State) : List Byte := s.rb.toList.take n

/-- `return v` (R9): deliver the result to the host. -/
def deliver (r : Result) (s : State) : State := { s with result := r }

/-- Whether a run that starts on bus `b` and ends with `last` answers taken meets an answer that never comes (R142). Its
answers have the numbers from `b.answered` up to `last`; it meets a missing one exactly when one of them is `silentFrom` or
later (log 5). -/
def hangs (b : Bus) (last : Nat) : Bool :=
  match b.silentFrom with
  | none => false
  | some m => decide (b.answered < last) && decide (m < last)

/-- The end of an operation begun in `s` whose run gives `r`, written as if every call were answered: the next state, or the
hang (R142). -/
def complete (s r : State) : Host.Outcome State Fault Refusal :=
  match hangs s.bus r.bus.answered with
  | true => .fault .transportHang
  | false => .next r

/-- Reset/construct with strap value `a` (R250): the registers R250 writes. Each reading becomes unwritten and holds
a new draw (log 10). The working registers, which it leaves
unspecified, keep what they held (DESIGN CHOICE, log 14). Nothing is sent on the bus. -/
def construct (a : BusAddr) (s : State) : State :=
  { s with
    addr := a
    err := 0#16
    useCrc := s.params.resetUseCrc
    unit := s.params.resetUnit
    temperature := .unwritten s.draws
    humidity := .unwritten (s.draws + 1)
    draws := s.draws + 2
    resetInput := none
    result := .none }

/-- Put a request at the head of the host's queue, with no reset input asserted. -/
def placeRequest (r : Request) (s : State) : State :=
  { s with requests := r :: s.requests, resetInput := none }

/-- The state in which the head request is executed: the request is taken off the queue. -/
def dropRequest (s : State) : State := { s with requests := s.requests.tail }

/-- The input the next step takes (log 1, log 14). -/
def nextInput (s : State) : Input :=
  match s.resetInput with
  | some a => .resetAsserted a
  | none =>
    match s.requests with
    | r :: _ => .request r
    | [] => .idle

/-- The value a reading register holds (R26, U3): the one written, or the free draw while it is unwritten (log 10). -/
def readingValue : Reading → Num
  | .written x => x
  | .unwritten draw => Config.freeReading draw

/-- The host looks at `TEMPERATURE` (R26). -/
def hostTemperature (s : State) : Num := readingValue s.temperature

/-- The host looks at `HUMIDITY` (R27). -/
def hostHumidity (s : State) : Num := readingValue s.humidity

end Sys2Proof.Machine
end

