-- ==== Sys2Proof/Machine/Convert.lean ====
section
/-! DEFINITION. Unit conversion (43_unit_conversion.md): CONVERT in exact rationals, or in a binary format rounded after each
of the three operations (R201). -/
namespace Sys2Proof.Machine

/-- 2 to an integer power. -/
def pow2 : Int → Num
  | .ofNat n => ((2 ^ n : Nat) : Num)
  | .negSucc n => 1 / ((2 ^ (n + 1) : Nat) : Num)

/-- The exponent `e` with `2^e ≤ x < 2^(e+1)`, for positive `x`. -/
def floorLog2 (x : Num) : Int :=
  let e : Int := (x.num.natAbs.log2 : Int) - (x.den.log2 : Int)
  if pow2 e ≤ x then e else e - 1

/-- A rational rounded to an integer (R201 names no rounding; PRESUMED, log 16). -/
def roundInt (mode : RoundingMode) (x : Num) : Int :=
  let f := x.floor
  let r := x - (f : Num)
  match mode with
  | .down => f
  | .up => x.ceil
  | .towardZero => if x < 0 then x.ceil else f
  | .nearestEven => if r < 1 / 2 then f else if 1 / 2 < r then f + 1 else if f % 2 = 0 then f else f + 1

/-- A rational rounded to `precision` significand bits, exponents unbounded (log 16). -/
def roundBinary (precision : Nat) (mode : RoundingMode) (x : Num) : Num :=
  if x = 0 then 0
  else
    let ulp := pow2 (floorLog2 (if x < 0 then -x else x) - (precision : Int) + 1)
    (roundInt mode (x / ulp) : Num) * ulp

/-- The value the format holds after one operation (R201). -/
def roundNum (fmt : NumFormat) (x : Num) : Num :=
  match fmt with
  | .exact => x
  | .binary precision mode => roundBinary precision mode x

/-- A raw code times a constant, over 65535: product first, then the division, each rounded (R201). -/
def scaleCode (fmt : NumFormat) (code : Word) (factor : Num) : Num :=
  roundNum fmt (roundNum fmt ((code.toNat : Num) * factor) / 65535)

/-- The temperature of `CONVERT` (R200). -/
def convertTemperature (fmt : NumFormat) (unit : TempUnit) (t : Word) : Num :=
  match unit with
  | .celsius => roundNum fmt (scaleCode fmt t 175 - 45)
  | .fahrenheit => roundNum fmt (scaleCode fmt t 315 - 49)

/-- The humidity of `CONVERT` (R200), the same in either unit. -/
def convertHumidity (fmt : NumFormat) (h : Word) : Num := scaleCode fmt h 100

/-- `CONVERT` (R200). -/
def convertCodes (fmt : NumFormat) (unit : TempUnit) (t h : Word) : Num × Num :=
  (convertTemperature fmt unit t, convertHumidity fmt h)

/-- `CONVERT` as a request (R200): a pure function of its operands. -/
def execConvert (unit : TempUnit) (t h : Word) (s : State) : Host.Outcome State Fault Refusal :=
  .next (deliver (.reading (some (convertCodes s.params.num unit t h))) s)

end Sys2Proof.Machine
end

