-- ==== Sys2Proof/Machine/Engine.lean ====
section
/-! DEFINITION. The command/checksum engine (40_command_checksum_engine.md): ENCODE, the checksum generator, CHECKSUM,
VERIFY_GROUP, DECODE_STATUS, DECODE_MEAS. They call no transport and raise no flag. Each evaluation of CHECKSUM leaves its
value in `CRCR` (R113, R116; log 6). -/
namespace Sys2Proof.Machine

/-- `CRC_BIT_STEP` (R112), polynomial 0x31. -/
def crcBitStep (c : Byte) : Byte :=
  if c.getLsbD 7 then (c <<< 1) ^^^ 0x31#8 else c <<< 1

/-- `n` bit steps in a row. -/
def crcBitSteps : Nat → Byte → Byte
  | 0, c => c
  | n + 1, c => crcBitSteps n (crcBitStep c)

/-- `CRC_BYTE_STEP` (R114). -/
def crcByteStep (c d : Byte) : Byte := crcBitSteps 8 (c ^^^ d)

/-- The value every evaluation starts from (R113). -/
def crcInit : Byte := 0xFF#8

/-- The value of `CHECKSUM(L)` (R116). -/
def checksum (data : List Byte) : Byte := data.foldl crcByteStep crcInit

/-- An evaluation of `CHECKSUM(L)` on the state: `CRCR` runs through it and holds its value at the end (R113, R116). -/
def evalChecksum (data : List Byte) (s : State) : State := { s with crcr := checksum data }

/-- `VERIFY_GROUP` (R120). -/
def verifyGroup (g0 g1 g2 : Byte) (s : State) : Bool × State :=
  let r := evalChecksum [g0, g1] s
  (r.crcr == g2, r)

/-- `DECODE_STATUS` (R122): the word, or none where the group is bad and the word must not be used (U4; log 12). -/
def decodeStatusFrame (f0 f1 f2 : Byte) (s : State) : Option Word × State :=
  let v := verifyGroup f0 f1 f2 s
  (if v.1 then some (joinWord f0 f1) else none, v.2)

/-- `DECODE_MEAS` (R124): the raw codes, or none where a group is bad (U4; log 12). The two groups are verified
independently, temperature first (R125; log 7). With `check` false no checksum is computed (R121). -/
def decodeMeasFrame (check : Bool) (f0 f1 f2 f3 f4 f5 : Byte) (s : State) : Option (Word × Word) × State :=
  if check then
    let v := verifyGroup f0 f1 f2 s
    let w := verifyGroup f3 f4 f5 v.2
    (if v.1 && w.1 then some (joinWord f0 f1, joinWord f3 f4) else none, w.2)
  else (some (joinWord f0 f1, joinWord f3 f4), s)

/-- `ENCODE` (R110): no validation at this layer. -/
def execEncode (cmd : Word) (s : State) : Host.Outcome State Fault Refusal :=
  .next (deliver (.frame (hiByte cmd) (loByte cmd)) s)

/-- `CHECKSUM` (R116): total on every list (D19). -/
def execChecksum (data : List Byte) (s : State) : Host.Outcome State Fault Refusal :=
  let r := evalChecksum data s
  .next (deliver (.byte r.crcr) r)

/-- `VERIFY_GROUP` (R120): an invalid group is the result false. -/
def execVerifyGroup (g0 g1 g2 : Byte) (s : State) : Host.Outcome State Fault Refusal :=
  let r := verifyGroup g0 g1 g2 s
  .next (deliver (.bool r.1) r.2)

/-- `DECODE_STATUS` (R122): always verified, whatever `USE_CRC` is. -/
def execDecodeStatus (f0 f1 f2 : Byte) (s : State) : Host.Outcome State Fault Refusal :=
  let r := decodeStatusFrame f0 f1 f2 s
  .next (deliver (.status r.1) r.2)

/-- `DECODE_MEAS` (R124). -/
def execDecodeMeas (check : Bool) (f0 f1 f2 f3 f4 f5 : Byte) (s : State) : Host.Outcome State Fault Refusal :=
  let r := decodeMeasFrame check f0 f1 f2 f3 f4 f5 s
  .next (deliver (.codes r.1) r.2)

end Sys2Proof.Machine
end

