-- ==== Sys2Proof/Machine/Transport.lean ====
section
/-! DEFINITION. The transport operations (41_transport_ops.md): WRITE_COMMAND and READ_BYTES. -/
namespace Sys2Proof.Machine

/-- `WRITE_COMMAND` (R145, R146): the frame goes through `CB`; the transaction is always completed (D6). -/
def writeCommand (cmd : Word) (s : State) : Bool × State :=
  let a := tBeginTransmission s.addr (writeCB (hiByte cmd) (loByte cmd) s)
  let w := tWrite (readCB a) a
  let e := tEndTransmission (raiseIf (w.1 < 2) .writeLen w.2)
  if e.1 ≠ 0 then (false, raise .endTransmission e.2)
  else (!(decide (w.1 < 2) && s.params.shortWriteFails), e.2)

/-- `count` calls of `T.read`, each byte written to `RB` from index `i` on (R148). -/
def readInto : Nat → Nat → State → State
  | 0, _, s => s
  | count + 1, i, s =>
    let r := tRead s
    readInto count (i + 1) (writeRB i r.1 r.2)

/-- `READ_BYTES` (R148): the bytes, or none where the transport's count differs and nothing is read. -/
def readBytes (n : Nat) (s : State) : Option (List Byte) × State :=
  let q := tRequestFrom s.addr n s
  if q.1 ≠ n then (none, raise .requestLen q.2)
  else
    let r := readInto n 0 q.2
    (some (readRB n r), r)

/-- `WRITE_COMMAND` as a request (R145): any 16-bit value is sent. -/
def execWriteCommand (cmd : Word) (s : State) : Host.Outcome State Fault Refusal :=
  let r := writeCommand cmd s
  complete s (deliver (.bool r.1) r.2)

/-- `READ_BYTES` as a request (R148), refused above `P_RXBUF_LEN` (R92, D20). -/
def execReadBytes (n : Nat) (s : State) : Host.Outcome State Fault Refusal :=
  if n ≤ Config.rxBufLen then
    let r := readBytes n s
    complete s (deliver (.bytes r.1) r.2)
  else .refused (.malformed (.readTooLong n))

end Sys2Proof.Machine
end

