-- ==== Sys2Proof/Machine/Measurement.lean ====
section
/-! DEFINITION. The measurement operations (42_measurement_ops.md) and the host's drain (44_error_accumulator.md R212). Each
ends at its first failing step (R225, R228, D8). -/
namespace Sys2Proof.Machine

/-- The probe of `IS_CONNECTED` (R164): a transaction with no payload. -/
def probe (s : State) : Bool × State :=
  let e := tEndTransmission (tBeginTransmission s.addr s)
  if e.1 ≠ 0 then (false, raise .endTransmission e.2) else (true, e.2)

/-- `RESET` (R170, R172): the frame is written twice; `P_RESET_FIRST_WRITE` says what the first write's result does (D7). -/
def resetSensor (cmd : Word) (s : State) : Bool × State :=
  if isResetOpcode cmd then
    let w1 := writeCommand cmd s
    match s.params.resetFirstWrite with
    | .abort =>
      match w1.1 with
      | true => writeCommand cmd w1.2
      | false => (false, w1.2)
    | .and =>
      let w2 := writeCommand cmd w1.2
      (w1.1 && w2.1, w2.2)
    | .ignore => writeCommand cmd w1.2
  else (false, raise .wrongCommand s)

/-- `BEGIN` (R167): bind the transport, set its clock, then the general-call reset. -/
def beginSensor (s : State) : Bool × State :=
  resetSensor opGeneralCallReset (tSetClock Config.busHz (tBegin s))

/-- Byte `i` of `RB`. -/
def rbByte (i : Fin 6) (s : State) : Byte := s.rb[i]

/-- The success of a read (R179): both registers written, both values delivered. -/
def storeReading (t h : Word) (s : State) : Option (Num × Num) × State :=
  let v := convertCodes s.params.num s.unit t h
  (some v, { s with temperature := .written v.1, humidity := .written v.2 })

/-- The frame in `RB` decoded by `SINGLE_SHOT_READ` (R175, R178): verified only when `USE_CRC` is 1. -/
def finishReading (s : State) : Option (Num × Num) × State :=
  let d := decodeMeasFrame s.useCrc (rbByte 0 s) (rbByte 1 s) (rbByte 2 s) (rbByte 3 s) (rbByte 4 s) (rbByte 5 s) s
  match d.1 with
  | some (t, h) => storeReading t h d.2
  | none => (none, raise .crcCheck d.2)

/-- `SINGLE_SHOT_READ` (R175 to R179). -/
def singleShot (cmd : Word) (s : State) : Option (Num × Num) × State :=
  match ssDelay cmd with
  | none => (none, raise .wrongCommand s)
  | some units =>
    let w := writeCommand cmd s
    match w.1 with
    | true =>
      let r := readBytes 6 (delay units w.2)
      match r.1 with
      | some _ => finishReading r.2
      | none => (none, r.2)
    | false => (none, w.2)

/-- The sentinel of `READ_STATUS` (R88, R182). -/
def statusSentinel : Word := 0xFFFF#16

/-- The frame in `RB` decoded by `READ_STATUS` (R182, R184): always verified. -/
def finishStatus (s : State) : Word × State :=
  let d := decodeStatusFrame (rbByte 0 s) (rbByte 1 s) (rbByte 2 s) s
  match d.1 with
  | some w => (w, d.2)
  | none => (statusSentinel, raise .crcCheck d.2)

/-- `READ_STATUS` (R182, R184). -/
def statusRead (s : State) : Word × State :=
  let w := writeCommand opStatusRead s
  match w.1 with
  | true =>
    let r := readBytes 3 w.2
    match r.1 with
    | some _ => finishStatus r.2
    | none => (statusSentinel, r.2)
  | false => (statusSentinel, w.2)

/-- `SET_DEFAULTS` (R160). -/
def execSetDefaults (useCrc celsius : Bool) (s : State) : Host.Outcome State Fault Refusal :=
  .next (deliver .none { s with useCrc := useCrc, unit := unitOfBool celsius })

/-- `IS_CONNECTED` (R164). -/
def execIsConnected (s : State) : Host.Outcome State Fault Refusal :=
  let r := probe s
  complete s (deliver (.bool r.1) r.2)

/-- `BEGIN` (R167). -/
def execBegin (s : State) : Host.Outcome State Fault Refusal :=
  let r := beginSensor s
  complete s (deliver (.bool r.1) r.2)

/-- `RESET` (R170). -/
def execReset (cmd : Word) (s : State) : Host.Outcome State Fault Refusal :=
  let r := resetSensor cmd s
  complete s (deliver (.bool r.1) r.2)

/-- `SINGLE_SHOT_READ` (R175). -/
def execSingleShotRead (cmd : Word) (s : State) : Host.Outcome State Fault Refusal :=
  let r := singleShot cmd s
  complete s (deliver (.reading r.1) r.2)

/-- `READ_STATUS` (R182). -/
def execReadStatus (s : State) : Host.Outcome State Fault Refusal :=
  let r := statusRead s
  complete s (deliver (.word r.1) r.2)

/-- `CLEAR_STATUS` (R188). -/
def execClearStatus (s : State) : Host.Outcome State Fault Refusal :=
  let r := writeCommand opStatusClear s
  complete s (deliver (.bool r.1) r.2)

/-- `GET_LAST_ERROR` (R212): the mask is read and cleared in one step. -/
def execGetLastError (s : State) : Host.Outcome State Fault Refusal :=
  .next (deliver (.mask s.err) (clearErr s))

end Sys2Proof.Machine
end

