-- ==== Sys2Proof/Machine/WireOpcodes.lean ====
section
/-! DEFINITION. The ten wire opcodes of 30_encoding.md R83 as requests: each is performed by the operation that accepts it or
issues it, as the rule column of the opcode table says (DESIGN CHOICE, log 2). -/
namespace Sys2Proof.Machine

/-- `CMD_SOFT_RESET`: accepted by `RESET` (R83, R170). -/
def execCmdSoftReset (s : State) : Host.Outcome State Fault Refusal :=
  let r := resetSensor opSoftReset s
  complete s (deliver (.bool r.1) r.2)

/-- `CMD_GENERAL_CALL_RESET`: accepted by `RESET` (R83, R170), sent to `ADDR` like any command (R171). -/
def execCmdGeneralCallReset (s : State) : Host.Outcome State Fault Refusal :=
  let r := resetSensor opGeneralCallReset s
  complete s (deliver (.bool r.1) r.2)

/-- `CMD_SS_HIGH`: accepted by `SINGLE_SHOT_READ` (R83, R175). -/
def execCmdSsHigh (s : State) : Host.Outcome State Fault Refusal :=
  let r := singleShot opSsHigh s
  complete s (deliver (.reading r.1) r.2)

/-- `CMD_SS_MEDIUM`: accepted by `SINGLE_SHOT_READ` (R83, R175). -/
def execCmdSsMedium (s : State) : Host.Outcome State Fault Refusal :=
  let r := singleShot opSsMedium s
  complete s (deliver (.reading r.1) r.2)

/-- `CMD_SS_LOW`: accepted by `SINGLE_SHOT_READ` (R83, R175). -/
def execCmdSsLow (s : State) : Host.Outcome State Fault Refusal :=
  let r := singleShot opSsLow s
  complete s (deliver (.reading r.1) r.2)

/-- `CMD_SS_STRETCH_0`: accepted by no operation; `SINGLE_SHOT_READ` rejects it (R86, U2). -/
def execCmdSsStretch0 (s : State) : Host.Outcome State Fault Refusal :=
  let r := singleShot opSsStretch0 s
  complete s (deliver (.reading r.1) r.2)

/-- `CMD_SS_STRETCH_1`: accepted by no operation; `SINGLE_SHOT_READ` rejects it (R86, U2). -/
def execCmdSsStretch1 (s : State) : Host.Outcome State Fault Refusal :=
  let r := singleShot opSsStretch1 s
  complete s (deliver (.reading r.1) r.2)

/-- `CMD_SS_STRETCH_2`: accepted by no operation; `SINGLE_SHOT_READ` rejects it (R86, U2). -/
def execCmdSsStretch2 (s : State) : Host.Outcome State Fault Refusal :=
  let r := singleShot opSsStretch2 s
  complete s (deliver (.reading r.1) r.2)

/-- `CMD_STATUS_READ`: issued by `READ_STATUS` (R83, R182). -/
def execCmdStatusRead (s : State) : Host.Outcome State Fault Refusal :=
  let r := statusRead s
  complete s (deliver (.word r.1) r.2)

/-- `CMD_STATUS_CLEAR`: issued by `CLEAR_STATUS` (R83, R188). -/
def execCmdStatusClear (s : State) : Host.Outcome State Fault Refusal :=
  let r := writeCommand opStatusClear s
  complete s (deliver (.bool r.1) r.2)

end Sys2Proof.Machine
end

