-- ==== Sys2Proof/Machine/Dispatch.lean ====
section
/-! DEFINITION. The dispatch: each instruction's meaning (30_encoding.md R83, R90). -/
namespace Sys2Proof.Machine

def exec (i : Instr) (s : State) : Host.Outcome State Fault Refusal :=
  match i with
  -- wire opcodes, R83
  | .cmdSoftReset => Sys2Proof.Machine.execCmdSoftReset s
  | .cmdGeneralCallReset => Sys2Proof.Machine.execCmdGeneralCallReset s
  | .cmdSsHigh => Sys2Proof.Machine.execCmdSsHigh s
  | .cmdSsMedium => Sys2Proof.Machine.execCmdSsMedium s
  | .cmdSsLow => Sys2Proof.Machine.execCmdSsLow s
  | .cmdSsStretch0 => Sys2Proof.Machine.execCmdSsStretch0 s
  | .cmdSsStretch1 => Sys2Proof.Machine.execCmdSsStretch1 s
  | .cmdSsStretch2 => Sys2Proof.Machine.execCmdSsStretch2 s
  | .cmdStatusRead => Sys2Proof.Machine.execCmdStatusRead s
  | .cmdStatusClear => Sys2Proof.Machine.execCmdStatusClear s
  -- host operations, R90
  | .isConnected => Sys2Proof.Machine.execIsConnected s
  | .begin => Sys2Proof.Machine.execBegin s
  | .setDefaults useCrc celsius => Sys2Proof.Machine.execSetDefaults useCrc celsius s
  | .reset cmd => Sys2Proof.Machine.execReset cmd s
  | .singleShotRead cmd => Sys2Proof.Machine.execSingleShotRead cmd s
  | .readStatus => Sys2Proof.Machine.execReadStatus s
  | .clearStatus => Sys2Proof.Machine.execClearStatus s
  | .getLastError => Sys2Proof.Machine.execGetLastError s
  | .encode cmd => Sys2Proof.Machine.execEncode cmd s
  | .checksum data => Sys2Proof.Machine.execChecksum data s
  | .verifyGroup g0 g1 g2 => Sys2Proof.Machine.execVerifyGroup g0 g1 g2 s
  | .decodeStatus f0 f1 f2 => Sys2Proof.Machine.execDecodeStatus f0 f1 f2 s
  | .decodeMeas check f0 f1 f2 f3 f4 f5 => Sys2Proof.Machine.execDecodeMeas check f0 f1 f2 f3 f4 f5 s
  | .convert unit t h => Sys2Proof.Machine.execConvert unit t h s
  | .writeCommand cmd => Sys2Proof.Machine.execWriteCommand cmd s
  | .readBytes n => Sys2Proof.Machine.execReadBytes n s

end Sys2Proof.Machine
end

