-- ==== Sys2Proof/Machine/Step.lean ====
section
/-! DEFINITION. One step: the reset input (70_reset_and_hazards.md R250), or the host's oldest request executed to completion
(00_scope.md R12), or nothing while none is pending. -/
namespace Sys2Proof.Machine

/-- One step of the block (R6, R12, R63). -/
def step (s : State) : Host.Outcome State Fault Refusal :=
  match nextInput s with
  | .resetAsserted a => .next (construct a s)
  | .request r =>
    match decode r with
    | .ok i => exec i (dropRequest s)
    | .error e => .refused (.malformed e)
  | .idle => .next s

/-- `s` with the table's word as the host's next request (log 1). -/
def State.withFetchWord (s : State) (nbits w : Nat) : State := placeRequest (tableRequest nbits w) s

end Sys2Proof.Machine
end

