-- ==== Sys2Proof/Safety.lean ====
section
/-! DEFINITION. The terms of the claims: what a legal state is, when the transport answers, and what it means for two states
to agree but for the working registers. -/
namespace Sys2Proof.Machine

/-- The flags some rule raises: END_TRANSMISSION, REQUEST_LEN, WRITE_LEN, CRC_CHECK, WRONG_COMMAND (60_exceptions.md R221). -/
def triggeredFlags : BitVec 16 := 0x018E#16

/-- Whether a read has written the register since reset/construct (R26, R27). -/
def Reading.isWritten : Reading → Bool
  | .written _ => true
  | .unwritten _ => false

/-- A legal state: the reserved flags and bits 15:9 of `ERR` are 0 (R23, R87, R222), and the two readings are written or
unwritten together (R26, R27, R179); an unwritten one holds a draw already taken, so that reset/construct draws anew (log 10).
-/
structure State.Inv (s : State) : Prop where
  reservedFlagsClear : s.err &&& ~~~triggeredFlags = 0#16
  readingsTogether : s.temperature.isWritten = s.humidity.isWritten
  drawsTaken : ∀ k, s.temperature = .unwritten k ∨ s.humidity = .unwritten k → k < s.draws

/-- The readings, where written, lie in the range of every raw code (R200): -49 to 266 covers either unit, 0 to 100 percent. -/
structure State.ReadingsInRange (s : State) : Prop where
  temperature : ∀ x, s.temperature = .written x → -49 ≤ x ∧ x ≤ 266
  humidity : ∀ x, s.humidity = .written x → 0 ≤ x ∧ x ≤ 100

/-- The transport gives at least the next `n` answers (R142). -/
def State.Answers (s : State) (n : Nat) : Prop :=
  ∀ m, s.bus.silentFrom = some m → s.bus.answered + n ≤ m

/-- Agreement on everything but the working registers `CRCR`, `CB` and `RB` (R28, R29). -/
structure State.AgreeButWorking (s t : State) : Prop where
  addr : s.addr = t.addr
  err : s.err = t.err
  useCrc : s.useCrc = t.useCrc
  unit : s.unit = t.unit
  temperature : s.temperature = t.temperature
  humidity : s.humidity = t.humidity
  draws : s.draws = t.draws
  params : s.params = t.params
  bus : s.bus = t.bus
  requests : s.requests = t.requests
  resetInput : s.resetInput = t.resetInput
  result : s.result = t.result

/-- Two outcomes that nobody outside the block can tell apart: the same stop, or next states that agree but for the working
registers. -/
def AgreeOutcome : Host.Outcome State Fault Refusal → Host.Outcome State Fault Refusal → Prop
  | .next s, .next t => State.AgreeButWorking s t
  | .fault a, .fault b => a = b
  | .refused a, .refused b => a = b
  | .next _, .fault _ | .next _, .refused _ | .fault _, .next _
  | .fault _, .refused _ | .refused _, .next _ | .refused _, .fault _ => False

/-- The bus after `n` answers were taken and the events `es` were added to the trace. -/
def Bus.after (b : Bus) (n : Nat) (es : List Event) : Bus :=
  { script := b.script.drop n, answered := b.answered + n, silentFrom := b.silentFrom, trace := b.trace ++ es }

/-- The bus address an event of the trace names, if it names one. -/
def Event.address : Event → Option BusAddr
  | .beginTransmission a => some a
  | .requestFrom a _ _ => some a
  | .begin | .setClock _ | .write _ _ | .endTransmission _ | .read _ | .delay _ => none

end Sys2Proof.Machine
end

