-- ==== Sys2Proof/Certificates/Slice0/Obligations.lean ====
section
/-! DEFINITION. The statements about the model. Each docstring names the rule of spec/ it comes from. A clause that rests on a
choice of this model, or on an inference the spec marks as its own, says so and names the log entry. The answers of the
transport are written `busAnswer s.bus j` and `busByte s.bus j`: the statement then holds for every answer the transport may
give (R11). -/

open Sys2Proof Sys2Proof.Machine Host

/-! ## The spec's own formulas, for the statements -/

/-- The flags a command write raises, from the accepted count and the completion status (41_transport_ops.md R146). -/
def Sys2Proof.Spec.writeFlags (k st : Nat) : BitVec 16 :=
  (if k < 2 then 0x0008#16 else 0#16) ||| (if st = 0 then 0#16 else 0x0002#16)

/-- The result of a command write, the table of R146. -/
def Sys2Proof.Spec.writeResult (shortWriteFails : Bool) (k st : Nat) : Bool :=
  if 2 ≤ k then decide (st = 0) else if st = 0 then !shortWriteFails else false

/-- The trace of a command write (R145): the frame is sent high byte first (R80). -/
def Sys2Proof.Spec.writeEvents (a : BusAddr) (cmd : Word) (k st : Nat) : List Event :=
  [.beginTransmission a, .write [(cmd >>> 8).setWidth 8, cmd.setWidth 8] k, .endTransmission st]

/-- The command buffer after a command write (R50, R145). -/
def Sys2Proof.Spec.frameBuffer (cmd : Word) : Vector Byte 2 := #v[(cmd >>> 8).setWidth 8, cmd.setWidth 8]

/-- The parallel form of a byte step, R115 (b), with `x = c ^ d`. -/
def Sys2Proof.Spec.crcParallel (x : Byte) : Byte :=
  let b := fun k : Nat => x.getLsbD k
  BitVec.ofBool (b 5 ^^ b 3 ^^ b 2) ++ BitVec.ofBool (b 7 ^^ b 4 ^^ b 2 ^^ b 1)
    ++ BitVec.ofBool (b 7 ^^ b 6 ^^ b 3 ^^ b 1 ^^ b 0) ++ BitVec.ofBool (b 7 ^^ b 6 ^^ b 3 ^^ b 0)
    ++ BitVec.ofBool (b 7 ^^ b 6 ^^ b 3) ++ BitVec.ofBool (b 6 ^^ b 5 ^^ b 2)
    ++ BitVec.ofBool (b 7 ^^ b 5 ^^ b 4 ^^ b 1) ++ BitVec.ofBool (b 6 ^^ b 4 ^^ b 3 ^^ b 0)

/-- The bit-serial form of a byte step, R115 (c). -/
def Sys2Proof.Spec.crcSerial (c d : Byte) : Byte :=
  [7, 6, 5, 4, 3, 2, 1, 0].foldl
    (fun acc k => if acc.getLsbD 7 ^^ d.getLsbD k then (acc <<< 1) ^^^ 0x31#8 else acc <<< 1) c

/-- The bytes a successful read of `n` takes, after the answer to the request (R148): answers 1 to `n`, in arrival order. -/
def Sys2Proof.Spec.bytesRead (b : Bus) (skip n : Nat) : List Byte :=
  (List.range n).map (fun j => busByte b (skip + j))

/-- A group is valid when its third byte is the checksum of the first two (R120). -/
def Sys2Proof.Spec.groupValid (g0 g1 g2 : Byte) : Bool := checksum [g0, g1] == g2

open Sys2Proof.Spec

/-! ## Encodings -/

/-- 30_encoding.md: a well-formed instruction comes back from its request, every operand at every value. The CMD16 request and
the exact length of a request are this model's (log 2, log 3). -/
def Obligations.DecodeOfEncodeIsTheInstruction : Prop :=
  ∀ i : Instr, i.WellFormed = true → decode (encode i) = .ok i

/-- 30_encoding.md: every request the decoder accepts is the encoding of what it reads, and that is well formed; no request
has two readings and no bit of a request is ignored. -/
def Obligations.AcceptedRequestIsItsEncoding : Prop :=
  ∀ (r : Request) (i : Instr), decode r = .ok i → encode i = r ∧ i.WellFormed = true

/-- R92: the requests the block refuses. Each is refused by the decoder under its own name, and a step that meets it stops
with that refusal, which carries no state. -/
def Obligations.ReservedRequestsAreRefused : Prop :=
  let refuses := fun (bytes : List Byte) (e : RequestError) =>
    decode { format := .hostop, bytes := bytes } = .error e ∧
    ∀ s : State, s.resetInput = none → s.requests.head? = some { format := .hostop, bytes := bytes } →
      step s = .refused (.malformed e)
  (∀ (op : Byte) (args : List Byte),
    op.toNat ∉ [0x00, 0x01, 0x02, 0x03, 0x04, 0x05, 0x06, 0x07, 0x10, 0x11, 0x12, 0x13, 0x14, 0x15, 0x20, 0x21] →
    refuses (op :: args) (.unknownSelector op)) ∧
  (∀ cfg : Byte, 4 ≤ cfg.toNat → refuses [0x02#8, cfg] (.reservedCfgBits cfg)) ∧
  (∀ c f0 f1 f2 f3 f4 f5 : Byte, 2 ≤ c.toNat → refuses [0x14#8, c, f0, f1, f2, f3, f4, f5] (.badCheck c)) ∧
  (∀ u t1 t0 h1 h0 : Byte, 2 ≤ u.toNat → refuses [0x15#8, u, t1, t0, h1, h0] (.badUnit u)) ∧
  (∀ n : Byte, 7 ≤ n.toNat → refuses [0x21#8, n] (.readTooLong n.toNat))

/-- R80, R83, R90: some requests written out byte by byte decode to what they stand for. -/
def Obligations.SpecRequestsDecode : Prop :=
  decode { format := .cmd16, bytes := [0x30#8, 0xA2#8] } = .ok .cmdSoftReset ∧
  decode { format := .cmd16, bytes := [0xF3#8, 0x2D#8] } = .ok .cmdStatusRead ∧
  decode { format := .hostop, bytes := [0x02#8, 0x03#8] } = .ok (.setDefaults true true) ∧
  decode { format := .hostop, bytes := [0x04#8, 0x24#8, 0x16#8] } = .ok (.singleShotRead 0x2416#16) ∧
  decode { format := .hostop, bytes := [0x11#8, 0x02#8, 0xBE#8, 0xEF#8] } = .ok (.checksum [0xBE#8, 0xEF#8]) ∧
  decode { format := .hostop, bytes := [0x15#8, 0x01#8, 0x66#8, 0x67#8, 0x80#8, 0x01#8] }
    = .ok (.convert .celsius 0x6667#16 0x8001#16) ∧
  decode { format := .hostop, bytes := [0x21#8, 0x06#8] } = .ok (.readBytes 6)

/-! ## The step and reset -/

/-- A step runs the decoded request: with no reset input, when the oldest request decodes to `i`, the step is `exec i` in the
state with that request taken off the queue. The queue is this model's (log 1). -/
def Obligations.StepRunsTheDecodedRequest : Prop :=
  ∀ (s : State) (r : Request) (rest : List Request) (i : Instr),
    s.resetInput = none → s.requests = r :: rest → decode r = .ok i →
    step s = exec i { s with requests := rest }

/-- With no reset input and no request a step changes nothing: the block acts only when the host asks (R6). The idle step is
this model's (log 1). -/
def Obligations.StepWithoutInputChangesNothing : Prop :=
  ∀ s : State, s.resetInput = none → s.requests = [] → step s = .next s

/-- R250: reset/construct with strap `a` leaves the registers as the rule says and makes no transport call. That the reset
input is taken by a step before any request (log 14) and that each reading then holds a new draw (log 10) is this model's; no
clause speaks of the working registers, which the rule leaves unspecified. -/
def Obligations.ResetInputConstructs : Prop :=
  ∀ (s : State) (a : BusAddr), s.resetInput = some a →
    ∃ t, step s = .next t ∧ t.addr = a ∧ t.err = 0#16 ∧ t.useCrc = s.params.resetUseCrc ∧ t.unit = s.params.resetUnit ∧
      t.temperature = .unwritten s.draws ∧ t.humidity = .unwritten (s.draws + 1) ∧ t.draws = s.draws + 2 ∧
      t.bus = s.bus ∧ t.params = s.params ∧ t.resetInput = none ∧ t.requests = s.requests

/-- R36: the state after reset, with the parameters' values of R7. CRCR, CB and RB are unspecified there and not stated. -/
def Obligations.ResetStateIsAsSpecified : Prop :=
  State.reset.addr = Config.pAddr ∧ State.reset.err = 0#16 ∧ State.reset.useCrc = true ∧ State.reset.unit = .celsius ∧
  State.reset.temperature.isWritten = false ∧ State.reset.humidity.isWritten = false

/-! ## The engine -/

/-- R110: ENCODE splits any 16-bit value, high byte first, and changes nothing but the result. -/
def Obligations.EncodeSplitsTheOpcode : Prop :=
  ∀ (cmd : Word) (s : State),
    exec (.encode cmd) s = .next { s with result := .frame ((cmd >>> 8).setWidth 8) (cmd.setWidth 8) }

/-- R112: one bit step, on numbers. -/
def Obligations.BitStepShiftsAndFeedsBack : Prop :=
  ∀ c : Byte, (crcBitStep c).toNat =
    if 128 ≤ c.toNat then (2 * c.toNat % 256) ^^^ 0x31 else 2 * c.toNat

/-- R115 (b), (c): the byte step agrees with the parallel and with the bit-serial form (an inference the spec marks as its
own). -/
def Obligations.ByteStepAgreesWithParallelAndSerialForms : Prop :=
  ∀ c d : Byte, crcByteStep c d = crcParallel (c ^^^ d) ∧ crcByteStep c d = crcSerial c d

/-- R113, R116: CHECKSUM runs the byte step over the list from 0xFF, on every list; CRCR holds the value at the end and nothing
else changes but the result. That CRCR, which the spec lets a model keep as a local, is a register that holds the value after
the operation is this model's choice (log 6). -/
def Obligations.ChecksumRequestFoldsTheBytes : Prop :=
  ∀ (data : List Byte) (s : State),
    let c := data.foldl crcByteStep 0xFF#8
    exec (.checksum data) s = .next { s with crcr := c, result := .byte c }

/-- R117 (c): a list followed by its checksum has checksum 0, so a group is valid exactly when its three bytes have (an
inference the spec marks as its own). -/
def Obligations.ChecksumOfChecksummedIsZero : Prop :=
  (∀ data : List Byte, checksum (data ++ [checksum data]) = 0#8) ∧
  ∀ (g0 g1 g2 : Byte) (s : State),
    ∃ t, exec (.verifyGroup g0 g1 g2) s = .next t ∧
      t.result = .bool (checksum [g0, g1, g2] == 0#8)

/-- R117 (b) for lists of every length: flipping any single bit changes the checksum (an inference the spec marks as its own,
there for pairs). -/
def Obligations.ChecksumSeesEverySingleBitFlip : Prop :=
  ∀ (before after : List Byte) (d : Byte) (k : Nat), k < 8 →
    checksum (before ++ (d ^^^ (1#8 <<< k)) :: after) ≠ checksum (before ++ d :: after)

/-- R120: VERIFY_GROUP compares the checksum of the first two bytes with the third; only CRCR and the result change. That CRCR
holds the checksum afterwards follows the pseudocode of R116 and is this model's choice (log 6). -/
def Obligations.VerifyGroupComparesTheChecksum : Prop :=
  ∀ (g0 g1 g2 : Byte) (s : State),
    exec (.verifyGroup g0 g1 g2) s =
      .next { s with crcr := checksum [g0, g1], result := .bool (decide (checksum [g0, g1] = g2)) }

/-- R122: DECODE_STATUS verifies always, whatever USE_CRC is, and gives the big-endian word. That a bad group delivers no word
is read from U4 (log 12). -/
def Obligations.DecodeStatusVerifiesAlways : Prop :=
  ∀ (f0 f1 f2 : Byte) (s : State),
    ∃ c, exec (.decodeStatus f0 f1 f2) s =
      .next { s with crcr := c, result := .status (if groupValid f0 f1 f2 then some (f0 ++ f1) else none) }

/-- R124, R125: DECODE_MEAS with `check` needs both groups, each by its own two bytes; without it every frame is good and no
checksum is computed. That a bad frame delivers no codes is read from U4 (log 12). -/
def Obligations.DecodeMeasNeedsBothGroups : Prop :=
  ∀ (f0 f1 f2 f3 f4 f5 : Byte) (s : State),
    (∃ c, exec (.decodeMeas true f0 f1 f2 f3 f4 f5) s =
      .next { s with
        crcr := c
        result := .codes (if groupValid f0 f1 f2 && groupValid f3 f4 f5 then some (f0 ++ f1, f3 ++ f4) else none) }) ∧
    exec (.decodeMeas false f0 f1 f2 f3 f4 f5) s =
      .next { s with result := .codes (some (f0 ++ f1, f3 ++ f4)) }

/-! ## Conversion -/

/-- R200: CONVERT in exact rationals (P_NUM's value by R7), both units; only the result changes. -/
def Obligations.ConvertComputesTheFormulas : Prop :=
  ∀ (t h : Word) (s : State), s.params.num = .exact →
    exec (.convert .celsius t h) s =
      .next { s with result := .reading (some ((t.toNat : ℚ) * 175 / 65535 - 45, (h.toNat : ℚ) * 100 / 65535)) } ∧
    exec (.convert .fahrenheit t h) s =
      .next { s with result := .reading (some ((t.toNat : ℚ) * 315 / 65535 - 49, (h.toNat : ℚ) * 100 / 65535)) }

/-- R200: in exact rationals every code gives −45 to 130 °C, −49 to 266 °F, 0 to 100 percent. -/
def Obligations.ConvertedValuesStayInRange : Prop :=
  ∀ t h : Word,
    (-45 ≤ (convertCodes .exact .celsius t h).1 ∧ (convertCodes .exact .celsius t h).1 ≤ 130) ∧
    (-49 ≤ (convertCodes .exact .fahrenheit t h).1 ∧ (convertCodes .exact .fahrenheit t h).1 ≤ 266) ∧
    ∀ u, 0 ≤ (convertCodes .exact u t h).2 ∧ (convertCodes .exact u t h).2 ≤ 100

/-- R201: in a binary format the product, the quotient and the difference are each rounded, in that order. The rounding is
this model's (log 16). -/
def Obligations.ConvertRoundsEachOperation : Prop :=
  ∀ (p : Nat) (m : RoundingMode) (t h : Word) (s : State), s.params.num = .binary p m →
    let rnd := roundBinary p m
    exec (.convert .celsius t h) s =
      .next { s with
        result := .reading (some (rnd (rnd (rnd ((t.toNat : ℚ) * 175) / 65535) - 45),
          rnd (rnd ((h.toNat : ℚ) * 100) / 65535))) } ∧
    exec (.convert .fahrenheit t h) s =
      .next { s with
        result := .reading (some (rnd (rnd (rnd ((t.toNat : ℚ) * 315) / 65535) - 49),
          rnd (rnd ((h.toNat : ℚ) * 100) / 65535))) }

/-- The rounding of a binary format is to nearest: the error is at most one part in 2^precision. The rounding is this model's
(log 16). -/
def Obligations.RoundingErrorIsBounded : Prop :=
  ∀ (p : Nat) (x : ℚ), |roundBinary p .nearestEven x - x| * (2 : ℚ) ^ p ≤ |x|

/-! ## The transport operations -/

/-- R145: WRITE_COMMAND sends any 16-bit value as one two-byte frame to ADDR, completes the transaction, raises the two flags
by the two answers and returns by the completion status, or also by the count when P_SHORT_WRITE_FAILS is set (both values
of D6). -/
def Obligations.WriteCommandSendsTheFrame : Prop :=
  ∀ (cmd : Word) (s : State), s.Answers 2 →
    let k := busAnswer s.bus 0
    let st := busAnswer s.bus 1
    exec (.writeCommand cmd) s = .next
      { s with
        cb := frameBuffer cmd
        err := s.err ||| writeFlags k st
        bus := s.bus.after 2 (writeEvents s.addr cmd k st)
        result := .bool (writeResult s.params.shortWriteFails k st) }

/-- R148: READ_BYTES fails on any other count with nothing read, and else takes exactly `n` bytes in arrival order into RB,
whose further bytes keep what they held; more than P_RXBUF_LEN bytes are refused (R92). -/
def Obligations.ReadBytesTakesExactlyTheCount : Prop :=
  ∀ (n : Nat) (s : State),
    let k := busAnswer s.bus 0
    (6 < n → exec (.readBytes n) s = .refused (.malformed (.readTooLong n))) ∧
    (n ≤ 6 → k ≠ n → s.Answers 1 →
      exec (.readBytes n) s = .next
        { s with
          err := s.err ||| 0x0004#16
          bus := s.bus.after 1 [.requestFrom s.addr n k]
          result := .bytes none }) ∧
    (n ≤ 6 → k = n → s.Answers (n + 1) →
      ∃ rb : Vector Byte 6,
        exec (.readBytes n) s = .next
          { s with
            rb := rb
            bus := s.bus.after (n + 1) (.requestFrom s.addr n k :: (bytesRead s.bus 1 n).map .read)
            result := .bytes (some (bytesRead s.bus 1 n)) } ∧
        ∀ j : Fin 6, rb[j] = if j.val < n then busByte s.bus (1 + j.val) else s.rb[j])

/-- R142: where the transport is silent from its next answer on, every operation that calls it hangs: it has no final state.
The hang is this model's named fault (log 5). -/
def Obligations.SilentTransportHangsTheOperation : Prop :=
  ∀ (i : Instr) (s : State) (m : Nat), s.bus.silentFrom = some m → m ≤ s.bus.answered →
    ((∃ cmd, i = .writeCommand cmd) ∨ (∃ n, n ≤ 6 ∧ i = .readBytes n) ∨
      i = .isConnected ∨ i = .begin ∨ i = .readStatus ∨ i = .clearStatus ∨
      (∃ cmd, isResetOpcode cmd = true ∧ i = .reset cmd) ∨
      (∃ cmd, (ssDelay cmd).isSome = true ∧ i = .singleShotRead cmd) ∨
      i = .cmdSoftReset ∨ i = .cmdGeneralCallReset ∨ i = .cmdSsHigh ∨ i = .cmdSsMedium ∨ i = .cmdSsLow ∨
      i = .cmdStatusRead ∨ i = .cmdStatusClear) →
    exec i s = .fault .transportHang

/-! ## The measurement operations -/

/-- R160: SET_DEFAULTS writes the two registers and nothing else. -/
def Obligations.SetDefaultsWritesBothRegisters : Prop :=
  ∀ (useCrc celsius : Bool) (s : State),
    exec (.setDefaults useCrc celsius) s = .next
      { s with useCrc := useCrc, unit := if celsius then .celsius else .fahrenheit, result := .none }

/-- R164: IS_CONNECTED probes with no payload and reports the completion status. -/
def Obligations.IsConnectedProbes : Prop :=
  ∀ s : State, s.Answers 1 →
    let st := busAnswer s.bus 0
    exec .isConnected s = .next
      { s with
        err := s.err ||| (if st = 0 then 0#16 else 0x0002#16)
        bus := s.bus.after 1 [.beginTransmission s.addr, .endTransmission st]
        result := .bool (decide (st = 0)) }

/-- R170: RESET rejects every opcode but two with no bus traffic, and else writes the frame twice; the result is the second
write's, or both writes', or the first failing one's, by P_RESET_FIRST_WRITE (all three values of D7). -/
def Obligations.ResetWritesTheFrameTwice : Prop :=
  ∀ (cmd : Word) (s : State),
    let k1 := busAnswer s.bus 0
    let st1 := busAnswer s.bus 1
    let k2 := busAnswer s.bus 2
    let st2 := busAnswer s.bus 3
    let r1 := writeResult s.params.shortWriteFails k1 st1
    let r2 := writeResult s.params.shortWriteFails k2 st2
    (cmd ≠ 0x30A2#16 → cmd ≠ 0x0006#16 →
      exec (.reset cmd) s = .next { s with err := s.err ||| 0x0100#16, result := .bool false }) ∧
    ((cmd = 0x30A2#16 ∨ cmd = 0x0006#16) →
      (s.params.resetFirstWrite = .abort → r1 = false → s.Answers 2 →
        exec (.reset cmd) s = .next
          { s with
            cb := frameBuffer cmd
            err := s.err ||| writeFlags k1 st1
            bus := s.bus.after 2 (writeEvents s.addr cmd k1 st1)
            result := .bool false }) ∧
      ((s.params.resetFirstWrite = .abort → r1 = true) → s.Answers 4 →
        exec (.reset cmd) s = .next
          { s with
            cb := frameBuffer cmd
            err := s.err ||| writeFlags k1 st1 ||| writeFlags k2 st2
            bus := s.bus.after 4 (writeEvents s.addr cmd k1 st1 ++ writeEvents s.addr cmd k2 st2)
            result := .bool (match s.params.resetFirstWrite with
              | .ignore => r2
              | .and => r1 && r2
              | .abort => r2) }))

/-- R167: BEGIN binds the transport, sets the clock to 100 kHz and then is RESET(0x0006). -/
def Obligations.BeginIsClockThenGeneralCallReset : Prop :=
  ∀ s : State,
    exec .begin s = exec (.reset 0x0006#16) { s with bus := s.bus.after 0 [.begin, .setClock 100000] } ∧
    (s.Answers 4 → ∃ t, exec .begin s = .next t ∧ t.err &&& 0x0100#16 = s.err &&& 0x0100#16)

/-- R175 to R179: SINGLE_SHOT_READ, every outcome: a rejected opcode, a failed write, a wrong count, a bad group while USE_CRC
is 1, and success, which delivers the converted values and stores them. The delay stands once, between the write and the
read. A failure delivers nothing and leaves both readings. While USE_CRC is 0 no checksum is computed: CRCR stays; the value
that verifying leaves in CRCR is not stated (log 7). -/
def Obligations.SingleShotReadOutcomes : Prop :=
  ∀ (cmd : Word) (s : State),
    let k := busAnswer s.bus 0
    let st := busAnswer s.bus 1
    let n := busAnswer s.bus 2
    let b := fun j : Nat => busByte s.bus (3 + j)
    let w := writeResult s.params.shortWriteFails k st
    (cmd ≠ 0x2400#16 → cmd ≠ 0x240B#16 → cmd ≠ 0x2416#16 →
      exec (.singleShotRead cmd) s = .next { s with err := s.err ||| 0x0100#16, result := .reading none }) ∧
    ∀ units : Nat,
      (cmd = 0x2400#16 ∧ units = 16 ∨ cmd = 0x240B#16 ∧ units = 7 ∨ cmd = 0x2416#16 ∧ units = 5) →
      let asked := writeEvents s.addr cmd k st ++ [.delay units, .requestFrom s.addr 6 n]
      (w = false → s.Answers 2 →
        exec (.singleShotRead cmd) s = .next
          { s with
            cb := frameBuffer cmd
            err := s.err ||| writeFlags k st
            bus := s.bus.after 2 (writeEvents s.addr cmd k st)
            result := .reading none }) ∧
      (w = true → n ≠ 6 → s.Answers 3 →
        exec (.singleShotRead cmd) s = .next
          { s with
            cb := frameBuffer cmd
            err := s.err ||| writeFlags k st ||| 0x0004#16
            bus := s.bus.after 3 asked
            result := .reading none }) ∧
      (w = true → n = 6 → s.Answers 9 → s.useCrc = true →
        (groupValid (b 0) (b 1) (b 2) && groupValid (b 3) (b 4) (b 5)) = false →
        ∃ c, exec (.singleShotRead cmd) s = .next
          { s with
            crcr := c
            cb := frameBuffer cmd
            rb := #v[b 0, b 1, b 2, b 3, b 4, b 5]
            err := s.err ||| writeFlags k st ||| 0x0080#16
            bus := s.bus.after 9 (asked ++ [.read (b 0), .read (b 1), .read (b 2), .read (b 3), .read (b 4), .read (b 5)])
            result := .reading none }) ∧
      (w = true → n = 6 → s.Answers 9 →
        (s.useCrc = true → (groupValid (b 0) (b 1) (b 2) && groupValid (b 3) (b 4) (b 5)) = true) →
        let v := convertCodes s.params.num s.unit (b 0 ++ b 1) (b 3 ++ b 4)
        ∃ c, (s.useCrc = false → c = s.crcr) ∧ exec (.singleShotRead cmd) s = .next
          { s with
            crcr := c
            cb := frameBuffer cmd
            rb := #v[b 0, b 1, b 2, b 3, b 4, b 5]
            temperature := .written v.1
            humidity := .written v.2
            err := s.err ||| writeFlags k st
            bus := s.bus.after 9 (asked ++ [.read (b 0), .read (b 1), .read (b 2), .read (b 3), .read (b 4), .read (b 5)])
            result := .reading (some v) })

/-- R182, R184: READ_STATUS, every outcome: a failed write, a wrong count, a bad group whatever USE_CRC is, and the big-endian
word. Nothing is said of the value left in CRCR. -/
def Obligations.ReadStatusOutcomes : Prop :=
  ∀ s : State,
    let cmd := 0xF32D#16
    let k := busAnswer s.bus 0
    let st := busAnswer s.bus 1
    let n := busAnswer s.bus 2
    let b := fun j : Nat => busByte s.bus (3 + j)
    let w := writeResult s.params.shortWriteFails k st
    let asked := writeEvents s.addr cmd k st ++ [.requestFrom s.addr 3 n]
    (w = false → s.Answers 2 →
      exec .readStatus s = .next
        { s with
          cb := frameBuffer cmd
          err := s.err ||| writeFlags k st
          bus := s.bus.after 2 (writeEvents s.addr cmd k st)
          result := .word 0xFFFF#16 }) ∧
    (w = true → n ≠ 3 → s.Answers 3 →
      exec .readStatus s = .next
        { s with
          cb := frameBuffer cmd
          err := s.err ||| writeFlags k st ||| 0x0004#16
          bus := s.bus.after 3 asked
          result := .word 0xFFFF#16 }) ∧
    (w = true → n = 3 → s.Answers 6 →
      ∃ c, exec .readStatus s = .next
        { s with
          crcr := c
          cb := frameBuffer cmd
          rb := #v[b 0, b 1, b 2, s.rb[3], s.rb[4], s.rb[5]]
          err := s.err ||| writeFlags k st ||| (if groupValid (b 0) (b 1) (b 2) then 0#16 else 0x0080#16)
          bus := s.bus.after 6 (asked ++ [.read (b 0), .read (b 1), .read (b 2)])
          result := .word (if groupValid (b 0) (b 1) (b 2) then b 0 ++ b 1 else 0xFFFF#16) })

/-- R188: CLEAR_STATUS is one write of 0x3041 and returns its success. -/
def Obligations.ClearStatusWritesOneCommand : Prop :=
  ∀ s : State, s.Answers 2 →
    let k := busAnswer s.bus 0
    let st := busAnswer s.bus 1
    exec .clearStatus s = .next
      { s with
        cb := frameBuffer 0x3041#16
        err := s.err ||| writeFlags k st
        bus := s.bus.after 2 (writeEvents s.addr 0x3041#16 k st)
        result := .bool (writeResult s.params.shortWriteFails k st) }

/-- R86: RESET and SINGLE_SHOT_READ reject every opcode outside their sets, the three stretching opcodes among them, with
WRONG_COMMAND, no traffic and false; ENCODE and WRITE_COMMAND take any 16-bit value. -/
def Obligations.OpcodesAreGatedAboveTheEngine : Prop :=
  ∀ (cmd : Word) (s : State),
    (cmd ∉ [0x30A2#16, 0x0006#16] →
      exec (.reset cmd) s = .next { s with err := s.err ||| 0x0100#16, result := .bool false }) ∧
    (cmd ∉ [0x2400#16, 0x240B#16, 0x2416#16] →
      exec (.singleShotRead cmd) s = .next { s with err := s.err ||| 0x0100#16, result := .reading none }) ∧
    (∀ st ∈ [0x2C06#16, 0x2C0D#16, 0x2C10#16], st ∉ [0x30A2#16, 0x0006#16] ∧ st ∉ [0x2400#16, 0x240B#16, 0x2416#16]) ∧
    exec (.encode cmd) s = .next { s with result := .frame ((cmd >>> 8).setWidth 8) (cmd.setWidth 8) } ∧
    (s.Answers 2 → ∃ t es, exec (.writeCommand cmd) s = .next t ∧ t.bus.trace = s.bus.trace ++ es ∧
      Event.write [(cmd >>> 8).setWidth 8, cmd.setWidth 8] (busAnswer s.bus 0) ∈ es)

/-- R83, R86, the rule column of the opcode table: a wire opcode as a request is the operation that accepts it or issues it.
That a bare opcode is a request at all is this model's (log 2). -/
def Obligations.WireOpcodesRunTheirOperations : Prop :=
  ∀ s : State,
    exec .cmdSoftReset s = exec (.reset 0x30A2#16) s ∧
    exec .cmdGeneralCallReset s = exec (.reset 0x0006#16) s ∧
    exec .cmdSsHigh s = exec (.singleShotRead 0x2400#16) s ∧
    exec .cmdSsMedium s = exec (.singleShotRead 0x240B#16) s ∧
    exec .cmdSsLow s = exec (.singleShotRead 0x2416#16) s ∧
    exec .cmdStatusRead s = exec .readStatus s ∧
    exec .cmdStatusClear s = exec .clearStatus s ∧
    ∀ i ∈ [Instr.cmdSsStretch0, .cmdSsStretch1, .cmdSsStretch2],
      exec i s = .next { s with err := s.err ||| 0x0100#16, result := .reading none }

/-! ## The error accumulator -/

/-- R212: the drain returns the mask and clears it in one step, touching nothing else. -/
def Obligations.GetLastErrorDrains : Prop :=
  ∀ s : State, exec .getLastError s = .next { s with err := 0#16, result := .mask s.err }

/-- R210 with the bit table of R23: `raise F` sets F's bit and no other, and changes nothing else; the nine bits are distinct. -/
def Obligations.RaiseSetsExactlyItsBit : Prop :=
  (∀ (f : Flag) (s : State) (k : Nat),
    (raise f s).err.getLsbD k = (s.err.getLsbD k || decide (k = errBit f))) ∧
  (∀ (f : Flag) (s : State), { raise f s with err := s.err } = s) ∧
  (∀ f g : Flag, errBit f = errBit g → f = g) ∧
  [Flag.transmissionLen, .endTransmission, .requestLen, .writeLen, .wrongSensorId, .fmTimeout, .notConnected, .crcCheck,
    .wrongCommand].map errBit = [0, 1, 2, 3, 4, 5, 6, 7, 8]

/-- R211: no step clears a bit of ERR but the reset input and GET_LAST_ERROR. -/
def Obligations.ErrorBitsAreSticky : Prop :=
  ∀ s t : State, step s = .next t → s.resetInput = none →
    (∀ r ∈ s.requests.head?, decode r ≠ .ok .getLastError) →
    ∀ k, s.err.getLsbD k = true → t.err.getLsbD k = true

/-- R87, R222, R26: every step from a legal state gives a legal one: the reserved flags and bits 15:9 stay 0 and the two
readings stay written or unwritten together; an unwritten one holds a draw already taken (the draws are this model's, log 10).
-/
def Obligations.StepKeepsTheStateLegal : Prop :=
  ∀ s t : State, s.Inv → step s = .next t → t.Inv

/-- The state after reset is legal (R36). -/
def Obligations.ResetStateIsLegal : Prop := State.reset.Inv

/-! ## Whole-machine rules -/

/-- Every well-formed instruction completes, in every state in which the transport gives its next nine answers: no operation
is fatal (R220), and none needs more than nine (R143). -/
def Obligations.EveryOperationCompletes : Prop :=
  ∀ (i : Instr) (s : State), i.WellFormed = true → s.Answers 9 → ∃ t, exec i s = .next t

/-- The only stops of an operation are a silent transport (R142) and the READ_BYTES the block refuses (R92). -/
def Obligations.OperationsStopOnlyAsSpecified : Prop :=
  ∀ (i : Instr) (s : State),
    (∀ f, exec i s = .fault f → f = .transportHang ∧ ∃ m, s.bus.silentFrom = some m ∧ m < s.bus.answered + 9) ∧
    (∀ r, exec i s = .refused r → ∃ n, i = .readBytes n ∧ 6 < n ∧ r = .malformed (.readTooLong n))

/-- R22, R251: a step without the reset input leaves ADDR, and no step writes the implementation parameters (R7). -/
def Obligations.AddressIsImmutable : Prop :=
  ∀ s t : State, step s = .next t →
    (s.resetInput = none → t.addr = s.addr) ∧ t.params = s.params

/-- R24, R25: only SET_DEFAULTS writes USE_CRC and UNIT. -/
def Obligations.OnlySetDefaultsWritesTheModeBits : Prop :=
  ∀ (i : Instr) (s t : State), exec i s = .next t → (∀ a b, i ≠ .setDefaults a b) →
    t.useCrc = s.useCrc ∧ t.unit = s.unit

/-- R26, R27, R177, R179: the readings change only by a single-shot read that returns true, to the values it delivers, and an
unwritten reading is never made up. CMD_SS_HIGH, MEDIUM and LOW are single-shot reads by log 2. -/
def Obligations.OnlySuccessfulReadsWriteTheReadings : Prop :=
  ∀ (i : Instr) (s t : State), exec i s = .next t →
    (t.temperature = s.temperature ∧ t.humidity = s.humidity) ∨
    ∃ x y, t.result = .reading (some (x, y)) ∧ t.temperature = .written x ∧ t.humidity = .written y ∧
      ((∃ cmd, i = .singleShotRead cmd ∧ cmd ∈ [0x2400#16, 0x240B#16, 0x2416#16]) ∨
        i ∈ [Instr.cmdSsHigh, .cmdSsMedium, .cmdSsLow])

/-- In exact rationals the readings stay in the range of the conversion, whatever the sensor answers (R200, R201). -/
def Obligations.StepKeepsReadingsInRange : Prop :=
  ∀ s t : State, s.params.num = .exact → s.ReadingsInRange → step s = .next t → t.ReadingsInRange

/-- The readings after reset are unwritten, so in range (R36). -/
def Obligations.ResetReadingsAreInRange : Prop := State.reset.ReadingsInRange

/-- R33, last row: ENCODE, CHECKSUM, VERIFY_GROUP, DECODE_STATUS, DECODE_MEAS and CONVERT read and write no register of the
table, raise no flag and make no transport call: only CRCR, their local, and the result change, and the result does not
depend on the registers, but for P_NUM in CONVERT. -/
def Obligations.EngineOperationsArePure : Prop :=
  ∀ i : Instr,
    ((∃ cmd, i = .encode cmd) ∨ (∃ l, i = .checksum l) ∨ (∃ a b c, i = .verifyGroup a b c) ∨
      (∃ a b c, i = .decodeStatus a b c) ∨ (∃ k a b c d e f, i = .decodeMeas k a b c d e f) ∨
      (∃ u t h, i = .convert u t h)) →
    ∀ p : Params, ∃ res : Result, ∀ s : State, s.params = p →
      ∃ c, exec i s = .next { s with crcr := c, result := res }

/-- R251, R170, R211: the operations that act on the sensor leave every register of the block but ERR, which only gains flags,
and CB, which holds the frame. -/
def Obligations.SensorResetsLeaveTheBlock : Prop :=
  ∀ (i : Instr) (s t : State), exec i s = .next t →
    ((∃ cmd, i = .reset cmd) ∨ (∃ cmd, i = .writeCommand cmd) ∨
      i ∈ [Instr.begin, .clearStatus, .isConnected, .cmdSoftReset, .cmdGeneralCallReset, .cmdStatusClear]) →
    ∃ flags : BitVec 16,
      t = { s with err := s.err ||| flags, cb := t.cb, bus := t.bus, result := t.result }

/-- R52, R60: a step only adds to the trace, and every transaction it adds goes to ADDR, the general-call reset among them
(R171). -/
def Obligations.EveryTransactionGoesToTheAddress : Prop :=
  ∀ (i : Instr) (s t : State), exec i s = .next t →
    ∃ es, t.bus.trace = s.bus.trace ++ es ∧ ∀ e ∈ es, ∀ a, e.address = some a → a = s.addr

/-- R143: no retries. An operation takes at most nine answers, in the order they come. -/
def Obligations.OperationsTakeAtMostNineAnswers : Prop :=
  ∀ (i : Instr) (s t : State), exec i s = .next t →
    ∃ n, n ≤ 9 ∧ t.bus.answered = s.bus.answered + n ∧ t.bus.script = s.bus.script.drop n ∧
      t.bus.silentFrom = s.bus.silentFrom

/-- R28, R29: the working registers carry nothing from one operation to the next. Two states that agree but for CRCR, CB and RB
make the same step: the same stop, or next states that again agree but for them. -/
def Obligations.WorkingRegistersCarryNothing : Prop :=
  ∀ s t : State, s.AgreeButWorking t → AgreeOutcome (step s) (step t)

/-- R262: a READ_STATUS that raises no flag on a drained mask returned a genuine word: the one its two data bytes make, under a
valid checksum, though it may be 0xFFFF (an inference the spec marks as its own). -/
def Obligations.StatusWithoutFlagIsGenuine : Prop :=
  ∀ s t : State, exec .readStatus s = .next t → s.err = 0#16 → t.err = 0#16 →
    t.result = .word (t.rb[0] ++ t.rb[1]) ∧ groupValid t.rb[0] t.rb[1] t.rb[2] = true

/-- R184, R121: READ_STATUS does not depend on USE_CRC. -/
def Obligations.StatusReadIgnoresUseCrc : Prop :=
  ∀ (s t : State) (b : Bool), exec .readStatus s = .next t →
    exec .readStatus { s with useCrc := b } = .next { t with useCrc := b }

/-- R26, R27: the host's look at a reading gives the value written, and while it is unwritten the value of its draw, of which
nothing is said: the clauses hold for every value of it. The draw, of the two treatments the rule allows, is this model's
(log 10). -/
def Obligations.HostReadsTheReadings : Prop :=
  ∀ s : State,
    (∀ x, s.temperature = .written x → hostTemperature s = x) ∧
    (∀ k, s.temperature = .unwritten k → hostTemperature s = Config.freeReading k) ∧
    (∀ x, s.humidity = .written x → hostHumidity s = x) ∧
    (∀ k, s.humidity = .unwritten k → hostHumidity s = Config.freeReading k)
end

