-- ==== Sys2Proof/Laws/Operands.lean ====
section
/-! SUPPORT. Words and their two bytes (30_encoding.md R84). -/
namespace Sys2Proof.Machine

/-- The bits of a joined word. -/
theorem joinWord_bit (hi lo : Byte) (k : Nat) :
    (joinWord hi lo).getLsbD k = if k < 8 then lo.getLsbD k else hi.getLsbD (k - 8) :=
  BitVec.getLsbD_append

/-- A word is its two bytes, the high one first. -/
@[simp] theorem joinWord_hi_lo (w : Word) : joinWord (hiByte w) (loByte w) = w := by
  apply BitVec.eq_of_getLsbD_eq
  intro k hk
  rw [joinWord_bit]
  split
  · simp [loByte, *]
  · simp [hiByte, show k - 8 < 8 by omega, show 8 + (k - 8) = k by omega]

@[simp] theorem hiByte_joinWord (hi lo : Byte) : hiByte (joinWord hi lo) = hi := by
  apply BitVec.eq_of_getLsbD_eq
  intro k hk
  simp [hiByte, joinWord_bit, hk]

@[simp] theorem loByte_joinWord (hi lo : Byte) : loByte (joinWord hi lo) = lo := by
  apply BitVec.eq_of_getLsbD_eq
  intro k hk
  simp [loByte, joinWord_bit, hk]

/-- The high byte is the word shifted right by eight. -/
theorem hiByte_eq_shift (w : Word) : hiByte w = (w >>> 8).setWidth 8 := by
  apply BitVec.eq_of_getLsbD_eq
  intro k hk
  simp [hiByte, hk]

/-- The low byte is the word truncated. -/
theorem loByte_eq_truncate (w : Word) : loByte w = w.setWidth 8 := by
  apply BitVec.eq_of_getLsbD_eq
  intro k hk
  simp [loByte, hk]

end Sys2Proof.Machine
end

