-- ==== Sys2Proof/Laws/State.lean ====
section
/-! SUPPORT. One lemma per field per update of the state, and the algebra of `Bus.after`. -/
namespace Sys2Proof.Machine

/-! ### readings -/

@[simp] theorem readingValue_written (x : Num) : readingValue (.written x) = x := rfl
@[simp] theorem readingValue_unwritten (draw : Nat) : readingValue (.unwritten draw) = Config.freeReading draw := rfl
@[simp] theorem isWritten_written (x : Num) : (Reading.written x).isWritten = true := rfl
@[simp] theorem isWritten_unwritten (draw : Nat) : (Reading.unwritten draw).isWritten = false := rfl

/-! ### raise -/

@[simp] theorem raise_addr (f : Flag) (s : State) : (raise f s).addr = s.addr := rfl
@[simp] theorem raise_err (f : Flag) (s : State) : (raise f s).err = s.err ||| flagMask f := rfl
@[simp] theorem raise_useCrc (f : Flag) (s : State) : (raise f s).useCrc = s.useCrc := rfl
@[simp] theorem raise_unit (f : Flag) (s : State) : (raise f s).unit = s.unit := rfl
@[simp] theorem raise_temperature (f : Flag) (s : State) : (raise f s).temperature = s.temperature := rfl
@[simp] theorem raise_humidity (f : Flag) (s : State) : (raise f s).humidity = s.humidity := rfl
@[simp] theorem raise_draws (f : Flag) (s : State) : (raise f s).draws = s.draws := rfl
@[simp] theorem raise_crcr (f : Flag) (s : State) : (raise f s).crcr = s.crcr := rfl
@[simp] theorem raise_cb (f : Flag) (s : State) : (raise f s).cb = s.cb := rfl
@[simp] theorem raise_rb (f : Flag) (s : State) : (raise f s).rb = s.rb := rfl
@[simp] theorem raise_params (f : Flag) (s : State) : (raise f s).params = s.params := rfl
@[simp] theorem raise_bus (f : Flag) (s : State) : (raise f s).bus = s.bus := rfl
@[simp] theorem raise_requests (f : Flag) (s : State) : (raise f s).requests = s.requests := rfl
@[simp] theorem raise_resetInput (f : Flag) (s : State) : (raise f s).resetInput = s.resetInput := rfl
@[simp] theorem raise_result (f : Flag) (s : State) : (raise f s).result = s.result := rfl

/-! ### clearErr -/

@[simp] theorem clearErr_addr (s : State) : (clearErr s).addr = s.addr := rfl
@[simp] theorem clearErr_err (s : State) : (clearErr s).err = 0#16 := rfl
@[simp] theorem clearErr_useCrc (s : State) : (clearErr s).useCrc = s.useCrc := rfl
@[simp] theorem clearErr_unit (s : State) : (clearErr s).unit = s.unit := rfl
@[simp] theorem clearErr_temperature (s : State) : (clearErr s).temperature = s.temperature := rfl
@[simp] theorem clearErr_humidity (s : State) : (clearErr s).humidity = s.humidity := rfl
@[simp] theorem clearErr_draws (s : State) : (clearErr s).draws = s.draws := rfl
@[simp] theorem clearErr_crcr (s : State) : (clearErr s).crcr = s.crcr := rfl
@[simp] theorem clearErr_cb (s : State) : (clearErr s).cb = s.cb := rfl
@[simp] theorem clearErr_rb (s : State) : (clearErr s).rb = s.rb := rfl
@[simp] theorem clearErr_params (s : State) : (clearErr s).params = s.params := rfl
@[simp] theorem clearErr_bus (s : State) : (clearErr s).bus = s.bus := rfl
@[simp] theorem clearErr_requests (s : State) : (clearErr s).requests = s.requests := rfl
@[simp] theorem clearErr_resetInput (s : State) : (clearErr s).resetInput = s.resetInput := rfl
@[simp] theorem clearErr_result (s : State) : (clearErr s).result = s.result := rfl

/-! ### emit -/

@[simp] theorem emit_addr (e : Event) (s : State) : (emit e s).addr = s.addr := rfl
@[simp] theorem emit_err (e : Event) (s : State) : (emit e s).err = s.err := rfl
@[simp] theorem emit_useCrc (e : Event) (s : State) : (emit e s).useCrc = s.useCrc := rfl
@[simp] theorem emit_unit (e : Event) (s : State) : (emit e s).unit = s.unit := rfl
@[simp] theorem emit_temperature (e : Event) (s : State) : (emit e s).temperature = s.temperature := rfl
@[simp] theorem emit_humidity (e : Event) (s : State) : (emit e s).humidity = s.humidity := rfl
@[simp] theorem emit_draws (e : Event) (s : State) : (emit e s).draws = s.draws := rfl
@[simp] theorem emit_crcr (e : Event) (s : State) : (emit e s).crcr = s.crcr := rfl
@[simp] theorem emit_cb (e : Event) (s : State) : (emit e s).cb = s.cb := rfl
@[simp] theorem emit_rb (e : Event) (s : State) : (emit e s).rb = s.rb := rfl
@[simp] theorem emit_params (e : Event) (s : State) : (emit e s).params = s.params := rfl
@[simp] theorem emit_bus (e : Event) (s : State) : (emit e s).bus = s.bus.after 0 [e] := by simp [emit, Bus.after]
@[simp] theorem emit_requests (e : Event) (s : State) : (emit e s).requests = s.requests := rfl
@[simp] theorem emit_resetInput (e : Event) (s : State) : (emit e s).resetInput = s.resetInput := rfl
@[simp] theorem emit_result (e : Event) (s : State) : (emit e s).result = s.result := rfl

/-! ### takeAnswer -/

@[simp] theorem takeAnswer_addr (s : State) : (takeAnswer s).addr = s.addr := rfl
@[simp] theorem takeAnswer_err (s : State) : (takeAnswer s).err = s.err := rfl
@[simp] theorem takeAnswer_useCrc (s : State) : (takeAnswer s).useCrc = s.useCrc := rfl
@[simp] theorem takeAnswer_unit (s : State) : (takeAnswer s).unit = s.unit := rfl
@[simp] theorem takeAnswer_temperature (s : State) : (takeAnswer s).temperature = s.temperature := rfl
@[simp] theorem takeAnswer_humidity (s : State) : (takeAnswer s).humidity = s.humidity := rfl
@[simp] theorem takeAnswer_draws (s : State) : (takeAnswer s).draws = s.draws := rfl
@[simp] theorem takeAnswer_crcr (s : State) : (takeAnswer s).crcr = s.crcr := rfl
@[simp] theorem takeAnswer_cb (s : State) : (takeAnswer s).cb = s.cb := rfl
@[simp] theorem takeAnswer_rb (s : State) : (takeAnswer s).rb = s.rb := rfl
@[simp] theorem takeAnswer_params (s : State) : (takeAnswer s).params = s.params := rfl
@[simp] theorem takeAnswer_bus (s : State) : (takeAnswer s).bus = s.bus.after 1 [] := by simp [takeAnswer, Bus.after]
@[simp] theorem takeAnswer_requests (s : State) : (takeAnswer s).requests = s.requests := rfl
@[simp] theorem takeAnswer_resetInput (s : State) : (takeAnswer s).resetInput = s.resetInput := rfl
@[simp] theorem takeAnswer_result (s : State) : (takeAnswer s).result = s.result := rfl

/-! ### writeCB -/

@[simp] theorem writeCB_addr (b0 b1 : Byte) (s : State) : (writeCB b0 b1 s).addr = s.addr := rfl
@[simp] theorem writeCB_err (b0 b1 : Byte) (s : State) : (writeCB b0 b1 s).err = s.err := rfl
@[simp] theorem writeCB_useCrc (b0 b1 : Byte) (s : State) : (writeCB b0 b1 s).useCrc = s.useCrc := rfl
@[simp] theorem writeCB_unit (b0 b1 : Byte) (s : State) : (writeCB b0 b1 s).unit = s.unit := rfl
@[simp] theorem writeCB_temperature (b0 b1 : Byte) (s : State) : (writeCB b0 b1 s).temperature = s.temperature := rfl
@[simp] theorem writeCB_humidity (b0 b1 : Byte) (s : State) : (writeCB b0 b1 s).humidity = s.humidity := rfl
@[simp] theorem writeCB_draws (b0 b1 : Byte) (s : State) : (writeCB b0 b1 s).draws = s.draws := rfl
@[simp] theorem writeCB_crcr (b0 b1 : Byte) (s : State) : (writeCB b0 b1 s).crcr = s.crcr := rfl
@[simp] theorem writeCB_cb (b0 b1 : Byte) (s : State) : (writeCB b0 b1 s).cb = #v[b0, b1] := rfl
@[simp] theorem writeCB_rb (b0 b1 : Byte) (s : State) : (writeCB b0 b1 s).rb = s.rb := rfl
@[simp] theorem writeCB_params (b0 b1 : Byte) (s : State) : (writeCB b0 b1 s).params = s.params := rfl
@[simp] theorem writeCB_bus (b0 b1 : Byte) (s : State) : (writeCB b0 b1 s).bus = s.bus := rfl
@[simp] theorem writeCB_requests (b0 b1 : Byte) (s : State) : (writeCB b0 b1 s).requests = s.requests := rfl
@[simp] theorem writeCB_resetInput (b0 b1 : Byte) (s : State) : (writeCB b0 b1 s).resetInput = s.resetInput := rfl
@[simp] theorem writeCB_result (b0 b1 : Byte) (s : State) : (writeCB b0 b1 s).result = s.result := rfl

/-! ### writeRB -/

@[simp] theorem writeRB_addr (i : Nat) (b : Byte) (s : State) : (writeRB i b s).addr = s.addr := rfl
@[simp] theorem writeRB_err (i : Nat) (b : Byte) (s : State) : (writeRB i b s).err = s.err := rfl
@[simp] theorem writeRB_useCrc (i : Nat) (b : Byte) (s : State) : (writeRB i b s).useCrc = s.useCrc := rfl
@[simp] theorem writeRB_unit (i : Nat) (b : Byte) (s : State) : (writeRB i b s).unit = s.unit := rfl
@[simp] theorem writeRB_temperature (i : Nat) (b : Byte) (s : State) : (writeRB i b s).temperature = s.temperature := rfl
@[simp] theorem writeRB_humidity (i : Nat) (b : Byte) (s : State) : (writeRB i b s).humidity = s.humidity := rfl
@[simp] theorem writeRB_draws (i : Nat) (b : Byte) (s : State) : (writeRB i b s).draws = s.draws := rfl
@[simp] theorem writeRB_crcr (i : Nat) (b : Byte) (s : State) : (writeRB i b s).crcr = s.crcr := rfl
@[simp] theorem writeRB_cb (i : Nat) (b : Byte) (s : State) : (writeRB i b s).cb = s.cb := rfl
@[simp] theorem writeRB_rb (i : Nat) (b : Byte) (s : State) : (writeRB i b s).rb = s.rb.setIfInBounds i b := rfl
@[simp] theorem writeRB_params (i : Nat) (b : Byte) (s : State) : (writeRB i b s).params = s.params := rfl
@[simp] theorem writeRB_bus (i : Nat) (b : Byte) (s : State) : (writeRB i b s).bus = s.bus := rfl
@[simp] theorem writeRB_requests (i : Nat) (b : Byte) (s : State) : (writeRB i b s).requests = s.requests := rfl
@[simp] theorem writeRB_resetInput (i : Nat) (b : Byte) (s : State) : (writeRB i b s).resetInput = s.resetInput := rfl
@[simp] theorem writeRB_result (i : Nat) (b : Byte) (s : State) : (writeRB i b s).result = s.result := rfl

/-! ### deliver -/

@[simp] theorem deliver_addr (r : Result) (s : State) : (deliver r s).addr = s.addr := rfl
@[simp] theorem deliver_err (r : Result) (s : State) : (deliver r s).err = s.err := rfl
@[simp] theorem deliver_useCrc (r : Result) (s : State) : (deliver r s).useCrc = s.useCrc := rfl
@[simp] theorem deliver_unit (r : Result) (s : State) : (deliver r s).unit = s.unit := rfl
@[simp] theorem deliver_temperature (r : Result) (s : State) : (deliver r s).temperature = s.temperature := rfl
@[simp] theorem deliver_humidity (r : Result) (s : State) : (deliver r s).humidity = s.humidity := rfl
@[simp] theorem deliver_draws (r : Result) (s : State) : (deliver r s).draws = s.draws := rfl
@[simp] theorem deliver_crcr (r : Result) (s : State) : (deliver r s).crcr = s.crcr := rfl
@[simp] theorem deliver_cb (r : Result) (s : State) : (deliver r s).cb = s.cb := rfl
@[simp] theorem deliver_rb (r : Result) (s : State) : (deliver r s).rb = s.rb := rfl
@[simp] theorem deliver_params (r : Result) (s : State) : (deliver r s).params = s.params := rfl
@[simp] theorem deliver_bus (r : Result) (s : State) : (deliver r s).bus = s.bus := rfl
@[simp] theorem deliver_requests (r : Result) (s : State) : (deliver r s).requests = s.requests := rfl
@[simp] theorem deliver_resetInput (r : Result) (s : State) : (deliver r s).resetInput = s.resetInput := rfl
@[simp] theorem deliver_result (r : Result) (s : State) : (deliver r s).result = r := rfl

/-! ### evalChecksum -/

@[simp] theorem evalChecksum_addr (data : List Byte) (s : State) : (evalChecksum data s).addr = s.addr := rfl
@[simp] theorem evalChecksum_err (data : List Byte) (s : State) : (evalChecksum data s).err = s.err := rfl
@[simp] theorem evalChecksum_useCrc (data : List Byte) (s : State) : (evalChecksum data s).useCrc = s.useCrc := rfl
@[simp] theorem evalChecksum_unit (data : List Byte) (s : State) : (evalChecksum data s).unit = s.unit := rfl
@[simp] theorem evalChecksum_temperature (data : List Byte) (s : State) : (evalChecksum data s).temperature = s.temperature := rfl
@[simp] theorem evalChecksum_humidity (data : List Byte) (s : State) : (evalChecksum data s).humidity = s.humidity := rfl
@[simp] theorem evalChecksum_draws (data : List Byte) (s : State) : (evalChecksum data s).draws = s.draws := rfl
@[simp] theorem evalChecksum_crcr (data : List Byte) (s : State) : (evalChecksum data s).crcr = checksum data := rfl
@[simp] theorem evalChecksum_cb (data : List Byte) (s : State) : (evalChecksum data s).cb = s.cb := rfl
@[simp] theorem evalChecksum_rb (data : List Byte) (s : State) : (evalChecksum data s).rb = s.rb := rfl
@[simp] theorem evalChecksum_params (data : List Byte) (s : State) : (evalChecksum data s).params = s.params := rfl
@[simp] theorem evalChecksum_bus (data : List Byte) (s : State) : (evalChecksum data s).bus = s.bus := rfl
@[simp] theorem evalChecksum_requests (data : List Byte) (s : State) : (evalChecksum data s).requests = s.requests := rfl
@[simp] theorem evalChecksum_resetInput (data : List Byte) (s : State) : (evalChecksum data s).resetInput = s.resetInput := rfl
@[simp] theorem evalChecksum_result (data : List Byte) (s : State) : (evalChecksum data s).result = s.result := rfl

/-! ### construct -/

@[simp] theorem construct_addr (a : BusAddr) (s : State) : (construct a s).addr = a := rfl
@[simp] theorem construct_err (a : BusAddr) (s : State) : (construct a s).err = 0#16 := rfl
@[simp] theorem construct_useCrc (a : BusAddr) (s : State) : (construct a s).useCrc = s.params.resetUseCrc := rfl
@[simp] theorem construct_unit (a : BusAddr) (s : State) : (construct a s).unit = s.params.resetUnit := rfl
@[simp] theorem construct_temperature (a : BusAddr) (s : State) : (construct a s).temperature = .unwritten s.draws := rfl
@[simp] theorem construct_humidity (a : BusAddr) (s : State) : (construct a s).humidity = .unwritten (s.draws + 1) := rfl
@[simp] theorem construct_draws (a : BusAddr) (s : State) : (construct a s).draws = s.draws + 2 := rfl
@[simp] theorem construct_crcr (a : BusAddr) (s : State) : (construct a s).crcr = s.crcr := rfl
@[simp] theorem construct_cb (a : BusAddr) (s : State) : (construct a s).cb = s.cb := rfl
@[simp] theorem construct_rb (a : BusAddr) (s : State) : (construct a s).rb = s.rb := rfl
@[simp] theorem construct_params (a : BusAddr) (s : State) : (construct a s).params = s.params := rfl
@[simp] theorem construct_bus (a : BusAddr) (s : State) : (construct a s).bus = s.bus := rfl
@[simp] theorem construct_requests (a : BusAddr) (s : State) : (construct a s).requests = s.requests := rfl
@[simp] theorem construct_resetInput (a : BusAddr) (s : State) : (construct a s).resetInput = none := rfl
@[simp] theorem construct_result (a : BusAddr) (s : State) : (construct a s).result = .none := rfl

/-! ### placeRequest -/

@[simp] theorem placeRequest_addr (r : Request) (s : State) : (placeRequest r s).addr = s.addr := rfl
@[simp] theorem placeRequest_err (r : Request) (s : State) : (placeRequest r s).err = s.err := rfl
@[simp] theorem placeRequest_useCrc (r : Request) (s : State) : (placeRequest r s).useCrc = s.useCrc := rfl
@[simp] theorem placeRequest_unit (r : Request) (s : State) : (placeRequest r s).unit = s.unit := rfl
@[simp] theorem placeRequest_temperature (r : Request) (s : State) : (placeRequest r s).temperature = s.temperature := rfl
@[simp] theorem placeRequest_humidity (r : Request) (s : State) : (placeRequest r s).humidity = s.humidity := rfl
@[simp] theorem placeRequest_draws (r : Request) (s : State) : (placeRequest r s).draws = s.draws := rfl
@[simp] theorem placeRequest_crcr (r : Request) (s : State) : (placeRequest r s).crcr = s.crcr := rfl
@[simp] theorem placeRequest_cb (r : Request) (s : State) : (placeRequest r s).cb = s.cb := rfl
@[simp] theorem placeRequest_rb (r : Request) (s : State) : (placeRequest r s).rb = s.rb := rfl
@[simp] theorem placeRequest_params (r : Request) (s : State) : (placeRequest r s).params = s.params := rfl
@[simp] theorem placeRequest_bus (r : Request) (s : State) : (placeRequest r s).bus = s.bus := rfl
@[simp] theorem placeRequest_requests (r : Request) (s : State) : (placeRequest r s).requests = r :: s.requests := rfl
@[simp] theorem placeRequest_resetInput (r : Request) (s : State) : (placeRequest r s).resetInput = none := rfl
@[simp] theorem placeRequest_result (r : Request) (s : State) : (placeRequest r s).result = s.result := rfl

/-! ### dropRequest -/

@[simp] theorem dropRequest_addr (s : State) : (dropRequest s).addr = s.addr := rfl
@[simp] theorem dropRequest_err (s : State) : (dropRequest s).err = s.err := rfl
@[simp] theorem dropRequest_useCrc (s : State) : (dropRequest s).useCrc = s.useCrc := rfl
@[simp] theorem dropRequest_unit (s : State) : (dropRequest s).unit = s.unit := rfl
@[simp] theorem dropRequest_temperature (s : State) : (dropRequest s).temperature = s.temperature := rfl
@[simp] theorem dropRequest_humidity (s : State) : (dropRequest s).humidity = s.humidity := rfl
@[simp] theorem dropRequest_draws (s : State) : (dropRequest s).draws = s.draws := rfl
@[simp] theorem dropRequest_crcr (s : State) : (dropRequest s).crcr = s.crcr := rfl
@[simp] theorem dropRequest_cb (s : State) : (dropRequest s).cb = s.cb := rfl
@[simp] theorem dropRequest_rb (s : State) : (dropRequest s).rb = s.rb := rfl
@[simp] theorem dropRequest_params (s : State) : (dropRequest s).params = s.params := rfl
@[simp] theorem dropRequest_bus (s : State) : (dropRequest s).bus = s.bus := rfl
@[simp] theorem dropRequest_requests (s : State) : (dropRequest s).requests = s.requests.tail := rfl
@[simp] theorem dropRequest_resetInput (s : State) : (dropRequest s).resetInput = s.resetInput := rfl
@[simp] theorem dropRequest_result (s : State) : (dropRequest s).result = s.result := rfl

/-! ### The bus -/

@[simp] theorem after_script (b : Bus) (n : Nat) (es : List Event) : (b.after n es).script = b.script.drop n := rfl
@[simp] theorem after_answered (b : Bus) (n : Nat) (es : List Event) : (b.after n es).answered = b.answered + n := rfl
@[simp] theorem after_silentFrom (b : Bus) (n : Nat) (es : List Event) : (b.after n es).silentFrom = b.silentFrom := rfl
@[simp] theorem after_trace (b : Bus) (n : Nat) (es : List Event) : (b.after n es).trace = b.trace ++ es := rfl

/-- Two stretches of bus use, one after the other, are one. -/
@[simp] theorem after_after (b : Bus) (m n : Nat) (es fs : List Event) :
    (b.after m es).after n fs = b.after (m + n) (es ++ fs) := by
  simp [Bus.after, Nat.add_assoc]

/-- Later answers are the same answers, counted from now. -/
@[simp] theorem busAnswer_after (b : Bus) (n : Nat) (es : List Event) (j : Nat) :
    busAnswer (b.after n es) j = busAnswer b (n + j) := by
  simp [busAnswer, Nat.add_assoc]

@[simp] theorem busByte_after (b : Bus) (n : Nat) (es : List Event) (j : Nat) :
    busByte (b.after n es) j = busByte b (n + j) := by
  simp [busByte]

end Sys2Proof.Machine
end

