-- ==== Sys2Proof/Laws/Ops.lean ====
section
/-! SUPPORT. What each shared operation does, said once: the transport calls, the end of an operation, WRITE_COMMAND,
READ_BYTES, and the inversion of the step. -/
namespace Sys2Proof.Machine

/-! ### Transport calls -/

theorem emit_eq (e : Event) (s : State) : emit e s = { s with bus := s.bus.after 0 [e] } := by
  simp [emit, Bus.after]

theorem tWrite_eq (l : List Byte) (s : State) :
    tWrite l s = (busAnswer s.bus 0, { s with bus := s.bus.after 1 [.write l (busAnswer s.bus 0)] }) := by
  simp [tWrite, emit, takeAnswer, Bus.after]

theorem tEndTransmission_eq (s : State) :
    tEndTransmission s =
      (busAnswer s.bus 0, { s with bus := s.bus.after 1 [.endTransmission (busAnswer s.bus 0)] }) := by
  simp [tEndTransmission, emit, takeAnswer, Bus.after]

theorem tRequestFrom_eq (a : BusAddr) (n : Nat) (s : State) :
    tRequestFrom a n s =
      (busAnswer s.bus 0, { s with bus := s.bus.after 1 [.requestFrom a n (busAnswer s.bus 0)] }) := by
  simp [tRequestFrom, emit, takeAnswer, Bus.after]

theorem tRead_eq (s : State) :
    tRead s = (busByte s.bus 0, { s with bus := s.bus.after 1 [.read (busByte s.bus 0)] }) := by
  simp [tRead, emit, takeAnswer, Bus.after]

/-! ### The end of an operation -/

/-- A run hangs exactly when it takes an answer that never comes. -/
theorem hangs_iff (b : Bus) (last : Nat) :
    hangs b last = true ↔ ∃ m, b.silentFrom = some m ∧ b.answered < last ∧ m < last := by
  unfold hangs
  cases b.silentFrom <;> simp

/-- An operation whose answers all come ends in its next state. -/
theorem complete_of_answers {s r : State} {n : Nat} (h : s.Answers n) (hr : r.bus.answered ≤ s.bus.answered + n) :
    complete s r = .next r := by
  have hn : hangs s.bus r.bus.answered = false := by
    rw [← Bool.not_eq_true, hangs_iff]
    rintro ⟨m, hm, -, hlt⟩
    have := h m hm
    omega
  unfold complete
  rw [hn]

/-- An operation that takes no answer always ends, however silent the transport is. -/
theorem complete_of_no_answer {s r : State} (h : r.bus.answered = s.bus.answered) : complete s r = .next r := by
  have hn : hangs s.bus r.bus.answered = false := by
    rw [← Bool.not_eq_true, hangs_iff]
    rintro ⟨m, -, hlt, -⟩
    omega
  unfold complete
  rw [hn]

/-- An operation ends in no other state than the one its run gives. -/
theorem complete_next {s r t : State} (h : complete s r = .next t) : t = r := by
  unfold complete at h
  split at h <;> cases h
  rfl

/-- An operation stops only by the hang, and only where an answer it needs never comes. -/
theorem complete_cases (s r : State) :
    complete s r = .next r ∨
    complete s r = .fault .transportHang ∧
      ∃ m, s.bus.silentFrom = some m ∧ s.bus.answered < r.bus.answered ∧ m < r.bus.answered := by
  unfold complete
  split
  · next h => exact .inr ⟨rfl, (hangs_iff _ _).1 h⟩
  · exact .inl rfl

theorem answers_mono {s : State} {m n : Nat} (h : s.Answers n) (hmn : m ≤ n) : s.Answers m := fun k hk => by
  have := h k hk; omega

/-! ### WRITE_COMMAND -/

/-- The flags a command write raises (R146). -/
def writeRaised (k st : Nat) : BitVec 16 :=
  (if k < 2 then flagMask .writeLen else 0#16) ||| (if st ≠ 0 then flagMask .endTransmission else 0#16)

/-- The result of a command write (R146). -/
def writeOk (p : Params) (k st : Nat) : Bool :=
  decide (st = 0) && !(decide (k < 2) && p.shortWriteFails)

/-- Everything `WRITE_COMMAND` does (R145, R146). -/
theorem writeCommand_eq (cmd : Word) (s : State) :
    writeCommand cmd s =
      (writeOk s.params (busAnswer s.bus 0) (busAnswer s.bus 1),
       { s with
         cb := #v[hiByte cmd, loByte cmd]
         err := s.err ||| writeRaised (busAnswer s.bus 0) (busAnswer s.bus 1)
         bus := s.bus.after 2
          [.beginTransmission s.addr, .write [hiByte cmd, loByte cmd] (busAnswer s.bus 0),
           .endTransmission (busAnswer s.bus 1)] }) := by
  by_cases hk : busAnswer s.bus 0 < 2 <;> by_cases hst : busAnswer s.bus 1 = 0 <;>
    simp [writeCommand, tBeginTransmission, emit_eq, tWrite_eq, tEndTransmission_eq, writeCB, readCB, raiseIf, raise,
      writeRaised, writeOk, hk, hst, BitVec.or_assoc]

/-! ### READ_BYTES -/

/-- The bytes of the next `n` answers after `skip`. -/
def nextBytes (b : Bus) (skip n : Nat) : List Byte := (List.range n).map (fun j => busByte b (skip + j))

theorem nextBytes_succ (b : Bus) (skip n : Nat) :
    nextBytes b skip (n + 1) = busByte b skip :: nextBytes b (skip + 1) n := by
  simp [nextBytes, List.range_succ_eq_map, Function.comp_def, Nat.add_comm, Nat.add_left_comm]

/-- A list of bytes written to `RB` from index `i` on. -/
def storeBytes (rb : Vector Byte 6) (i : Nat) : List Byte → Vector Byte 6
  | [] => rb
  | b :: bs => storeBytes (rb.setIfInBounds i b) (i + 1) bs

/-- What `RB` holds after the bytes are stored: the list from index `i` on, the old bytes elsewhere (R51). -/
theorem storeBytes_get (l : List Byte) (rb : Vector Byte 6) (i : Nat) (j : Fin 6) :
    (storeBytes rb i l)[j] =
      if h : i ≤ j.val ∧ j.val < i + l.length then l[j.val - i]'(by omega) else rb[j] := by
  induction l generalizing rb i with
  | nil => simp [storeBytes]
  | cons b l ih =>
    simp only [storeBytes, ih]
    by_cases h : i + 1 ≤ j.val ∧ j.val < i + 1 + l.length
    · rw [dif_pos h, dif_pos (by simp; omega)]
      have : j.val - i = (j.val - (i + 1)) + 1 := by omega
      simp [this]
    · rw [dif_neg h]
      by_cases h2 : j.val = i
      · rw [dif_pos (by simp; omega)]
        simp [h2]
      · rw [dif_neg (by simp; omega)]
        simp [Ne.symm h2]

/-- The bytes just stored are the bytes read back (R148). -/
theorem storeBytes_take (rb : Vector Byte 6) (l : List Byte) (hl : l.length ≤ 6) :
    (storeBytes rb 0 l).toList.take l.length = l := by
  apply List.ext_getElem
  · simp; omega
  · intro j h1 h2
    have := storeBytes_get l rb 0 ⟨j, by omega⟩
    simp at this
    simp [this, h2]

/-- A full frame stored. -/
theorem storeBytes_six (rb : Vector Byte 6) (a b c d e f : Byte) :
    storeBytes rb 0 [a, b, c, d, e, f] = #v[a, b, c, d, e, f] := by
  ext i hi
  have := storeBytes_get [a, b, c, d, e, f] rb 0 ⟨i, hi⟩
  simp at this
  rw [this, dif_pos hi]
  simp

/-- A status frame stored: the last three bytes keep what they held. -/
theorem storeBytes_three (rb : Vector Byte 6) (a b c : Byte) :
    storeBytes rb 0 [a, b, c] = #v[a, b, c, rb[3], rb[4], rb[5]] := by
  ext i hi
  have := storeBytes_get [a, b, c] rb 0 ⟨i, hi⟩
  simp at this
  rw [this]
  interval_cases i <;> simp

/-- Everything the reading loop does (R148). -/
theorem readInto_eq (n i : Nat) (s : State) :
    readInto n i s =
      { s with
        rb := storeBytes s.rb i (nextBytes s.bus 0 n)
        bus := s.bus.after n ((nextBytes s.bus 0 n).map .read) } := by
  induction n generalizing i s with
  | zero => simp [readInto, nextBytes, storeBytes, Bus.after]
  | succ n ih =>
    rw [nextBytes_succ]
    simp [readInto, ih, tRead_eq, writeRB, storeBytes, nextBytes, Nat.add_comm]

/-- Everything `READ_BYTES` does (R148). -/
theorem readBytes_eq (n : Nat) (s : State) :
    readBytes n s =
      if busAnswer s.bus 0 = n then
        let r := { s with
          rb := storeBytes s.rb 0 (nextBytes s.bus 1 n)
          bus := s.bus.after (n + 1) (.requestFrom s.addr n n :: (nextBytes s.bus 1 n).map .read) }
        (some (readRB n r), r)
      else
        (none, { s with
          err := s.err ||| flagMask .requestLen
          bus := s.bus.after 1 [.requestFrom s.addr n (busAnswer s.bus 0)] }) := by
  by_cases h : busAnswer s.bus 0 = n
  · simp [readBytes, tRequestFrom_eq, h, readInto_eq, nextBytes, Nat.add_comm]
  · simp [readBytes, tRequestFrom_eq, h, raise]

/-! ### The step -/

/-- Everything a step can do: take the reset input, run the oldest request, or nothing. -/
theorem step_cases {s t : State} (h : step s = .next t) :
    (∃ a, s.resetInput = some a ∧ t = construct a s) ∨
    (s.resetInput = none ∧ ∃ r rest i, s.requests = r :: rest ∧ decode r = .ok i ∧ exec i (dropRequest s) = .next t) ∨
    (s.resetInput = none ∧ s.requests = [] ∧ t = s) := by
  unfold step nextInput at h
  cases hr : s.resetInput with
  | some a => simp [hr] at h; exact .inl ⟨a, rfl, h.symm⟩
  | none =>
    cases hq : s.requests with
    | nil => simp [hr, hq] at h; exact .inr (.inr ⟨rfl, rfl, h.symm⟩)
    | cons r rest =>
      cases hd : decode r with
      | ok i => simp [hr, hq, hd] at h; exact .inr (.inl ⟨rfl, r, rest, i, rfl, hd, h⟩)
      | error e => simp [hr, hq, hd] at h

end Sys2Proof.Machine
end

