-- ==== Sys2Proof/Laws/Engine.lean ====
section
/-! SUPPORT. What the engine's operations and the conversion do, said once. -/
namespace Sys2Proof.Machine

theorem checksum_nil : checksum [] = crcInit := rfl

/-- `CHECKSUM` of a list with one more byte at the end (R116). -/
theorem checksum_concat (data : List Byte) (d : Byte) : checksum (data ++ [d]) = crcByteStep (checksum data) d := by
  simp [checksum]

/-- Everything `VERIFY_GROUP` does (R120). -/
theorem verifyGroup_eq (g0 g1 g2 : Byte) (s : State) :
    verifyGroup g0 g1 g2 s = (checksum [g0, g1] == g2, { s with crcr := checksum [g0, g1] }) := rfl

/-- Everything `DECODE_STATUS` does (R122). -/
theorem decodeStatusFrame_eq (f0 f1 f2 : Byte) (s : State) :
    decodeStatusFrame f0 f1 f2 s =
      (if checksum [f0, f1] == f2 then some (joinWord f0 f1) else none, { s with crcr := checksum [f0, f1] }) := rfl

/-- Everything `DECODE_MEAS` does when it checks (R124). -/
theorem decodeMeasFrame_checked (f0 f1 f2 f3 f4 f5 : Byte) (s : State) :
    decodeMeasFrame true f0 f1 f2 f3 f4 f5 s =
      (if checksum [f0, f1] == f2 && checksum [f3, f4] == f5 then some (joinWord f0 f1, joinWord f3 f4) else none,
        { s with crcr := checksum [f3, f4] }) := rfl

/-- Everything `DECODE_MEAS` does when it does not check (R121, R124). -/
theorem decodeMeasFrame_unchecked (f0 f1 f2 f3 f4 f5 : Byte) (s : State) :
    decodeMeasFrame false f0 f1 f2 f3 f4 f5 s = (some (joinWord f0 f1, joinWord f3 f4), s) := rfl

/-- The exact conversion (R200). -/
theorem convertCodes_exact (unit : TempUnit) (t h : Word) :
    convertCodes .exact unit t h =
      (match unit with
        | .celsius => (t.toNat : Num) * 175 / 65535 - 45
        | .fahrenheit => (t.toNat : Num) * 315 / 65535 - 49,
       (h.toNat : Num) * 100 / 65535) := by
  cases unit <;> rfl

end Sys2Proof.Machine
end

