-- ==== Sys2Proof/Laws/Measurement.lean ====
section
/-! SUPPORT. What the measurement operations do, said once, and what every operation has in common: `Effect`. -/
namespace Sys2Proof.Machine

/-- Everything the probe does (R164). -/
theorem probe_eq (s : State) :
    probe s =
      (decide (busAnswer s.bus 0 = 0),
       { s with
         err := s.err ||| (if busAnswer s.bus 0 = 0 then 0#16 else flagMask .endTransmission)
         bus := s.bus.after 1 [.beginTransmission s.addr, .endTransmission (busAnswer s.bus 0)] }) := by
  by_cases h : busAnswer s.bus 0 = 0 <;>
    simp [probe, tBeginTransmission, emit_eq, tEndTransmission_eq, raise, h]

/-- A rejected opcode (R86, R170). -/
theorem resetSensor_rejected {cmd : Word} (h : isResetOpcode cmd = false) (s : State) :
    resetSensor cmd s = (false, raise .wrongCommand s) := by
  simp [resetSensor, h]

/-- A rejected opcode (R86, R175). -/
theorem singleShot_rejected {cmd : Word} (h : ssDelay cmd = none) (s : State) :
    singleShot cmd s = (none, raise .wrongCommand s) := by
  simp [singleShot, h]

/-- Everything the end of `SINGLE_SHOT_READ` does with the frame in `RB` (R175, R178, R179). -/
theorem finishReading_eq (s : State) :
    finishReading s =
      let good := checksum [s.rb[0], s.rb[1]] == s.rb[2] && checksum [s.rb[3], s.rb[4]] == s.rb[5]
      let c := if s.useCrc then checksum [s.rb[3], s.rb[4]] else s.crcr
      let v := convertCodes s.params.num s.unit (joinWord s.rb[0] s.rb[1]) (joinWord s.rb[3] s.rb[4])
      if s.useCrc && !good then (none, { s with crcr := c, err := s.err ||| flagMask .crcCheck })
      else (some v, { s with crcr := c, temperature := .written v.1, humidity := .written v.2 }) := by
  cases hc : s.useCrc with
  | false => simp [finishReading, hc, decodeMeasFrame_unchecked, storeReading, rbByte]
  | true =>
    cases hg : checksum [s.rb[0], s.rb[1]] == s.rb[2] && checksum [s.rb[3], s.rb[4]] == s.rb[5] <;>
      simp [finishReading, hc, decodeMeasFrame_checked, storeReading, rbByte, hg, raise]

/-- Everything the end of `READ_STATUS` does with the frame in `RB` (R182, R184). -/
theorem finishStatus_eq (s : State) :
    finishStatus s =
      if checksum [s.rb[0], s.rb[1]] == s.rb[2] then
        (joinWord s.rb[0] s.rb[1], { s with crcr := checksum [s.rb[0], s.rb[1]] })
      else
        (statusSentinel,
          { s with crcr := checksum [s.rb[0], s.rb[1]], err := s.err ||| flagMask .crcCheck }) := by
  cases hg : checksum [s.rb[0], s.rb[1]] == s.rb[2] <;>
    simp [finishStatus, decodeStatusFrame_eq, rbByte, hg, raise]

/-- A run that only adds triggered flags to `ERR`, goes on taking the transport's answers in order, and talks to `ADDR` alone;
the working registers may hold anything after it. What every run has in common but the drain and the readings. -/
structure Effect (s t : State) (most : Nat) : Prop where
  addr : t.addr = s.addr
  useCrc : t.useCrc = s.useCrc
  unit : t.unit = s.unit
  params : t.params = s.params
  requests : t.requests = s.requests
  resetInput : t.resetInput = s.resetInput
  draws : t.draws = s.draws
  err : ∃ flags, flags &&& ~~~triggeredFlags = 0#16 ∧ t.err = s.err ||| flags
  bus : ∃ n es, n ≤ most ∧ t.bus = s.bus.after n es ∧ ∀ e ∈ es, ∀ a, e.address = some a → a = s.addr

namespace Effect

theorem refl (s : State) : Effect s s 0 where
  addr := rfl
  useCrc := rfl
  unit := rfl
  params := rfl
  requests := rfl
  resetInput := rfl
  draws := rfl
  err := ⟨0#16, by decide, by simp⟩
  bus := ⟨0, [], Nat.le_refl 0, by simp [Bus.after], by simp⟩

theorem trans {s t u : State} {m n : Nat} (h : Effect s t m) (k : Effect t u n) : Effect s u (m + n) where
  addr := k.addr.trans h.addr
  useCrc := k.useCrc.trans h.useCrc
  unit := k.unit.trans h.unit
  params := k.params.trans h.params
  requests := k.requests.trans h.requests
  resetInput := k.resetInput.trans h.resetInput
  draws := k.draws.trans h.draws
  err := by
    obtain ⟨f, hf, ef⟩ := h.err
    obtain ⟨g, hg, eg⟩ := k.err
    refine ⟨f ||| g, ?_, by rw [eg, ef, BitVec.or_assoc]⟩
    rw [BitVec.and_comm, BitVec.and_or_distrib_left, BitVec.and_comm, hf, BitVec.and_comm, hg]
    rfl
  bus := by
    obtain ⟨p, es, hp, ep, he⟩ := h.bus
    obtain ⟨q, fs, hq, eq, hg⟩ := k.bus
    refine ⟨p + q, es ++ fs, by omega, by rw [eq, ep, after_after], ?_⟩
    intro e hmem a ha
    rcases List.mem_append.1 hmem with h1 | h1
    · exact he e h1 a ha
    · exact (hg e h1 a ha).trans h.addr

theorem mono {s t : State} {m n : Nat} (h : Effect s t m) (hmn : m ≤ n) : Effect s t n :=
  { h with bus := by obtain ⟨p, es, hp, r⟩ := h.bus; exact ⟨p, es, by omega, r⟩ }

/-- An effect says nothing of the result, the working registers or the readings. -/
theorem congr {s t u : State} {m : Nat} (h : Effect s t m) (addr : u.addr = t.addr) (useCrc : u.useCrc = t.useCrc)
    (unit : u.unit = t.unit) (params : u.params = t.params) (requests : u.requests = t.requests)
    (resetInput : u.resetInput = t.resetInput) (draws : u.draws = t.draws) (err : u.err = t.err) (bus : u.bus = t.bus) : Effect s u m where
  addr := addr.trans h.addr
  useCrc := useCrc.trans h.useCrc
  unit := unit.trans h.unit
  params := params.trans h.params
  requests := requests.trans h.requests
  resetInput := resetInput.trans h.resetInput
  draws := draws.trans h.draws
  err := by rw [err]; exact h.err
  bus := by rw [bus]; exact h.bus

end Effect

/-- Raising a flag that some rule triggers (R221). -/
theorem raise_effect {f : Flag} (hf : flagMask f &&& ~~~triggeredFlags = 0#16) (s : State) : Effect s (raise f s) 0 :=
  { Effect.refl s with err := ⟨flagMask f, hf, rfl⟩, bus := by simpa [raise] using (Effect.refl s).bus }

theorem tEndTransmission_effect (s : State) : Effect s (tEndTransmission s).2 1 := by
  rw [tEndTransmission_eq]
  exact { Effect.refl s with bus := ⟨1, _, Nat.le_refl 1, rfl, by simp [Event.address]⟩ }

/-- An event that names no other address than `ADDR`. -/
theorem emit_effect {e : Event} {s : State} (he : ∀ a, e.address = some a → a = s.addr) : Effect s (emit e s) 0 := by
  rw [emit_eq]
  exact { Effect.refl s with bus := ⟨0, _, Nat.le_refl 0, rfl, by simpa using he⟩ }

theorem writeCommand_effect (cmd : Word) (s : State) : Effect s (writeCommand cmd s).2 2 := by
  rw [writeCommand_eq]
  exact
    { Effect.refl s with
      err := ⟨_, by unfold writeRaised; split <;> split <;> decide, rfl⟩
      bus := ⟨2, _, Nat.le_refl 2, rfl, by simp [Event.address]⟩ }

theorem readBytes_effect (n : Nat) (s : State) : Effect s (readBytes n s).2 (n + 1) := by
  rw [readBytes_eq]
  split
  · exact
      { Effect.refl s with
        bus := ⟨n + 1, _, Nat.le_refl _, rfl, by simp [Event.address]⟩ }
  · exact
      { Effect.refl s with
        err := ⟨flagMask .requestLen, by decide, rfl⟩
        bus := ⟨1, _, by omega, rfl, by simp [Event.address]⟩ }

theorem probe_effect (s : State) : Effect s (probe s).2 1 := by
  rw [probe_eq]
  exact
    { Effect.refl s with
      err := ⟨_, by split <;> decide, rfl⟩
      bus := ⟨1, _, Nat.le_refl 1, rfl, by simp [Event.address]⟩ }

theorem resetSensor_effect (cmd : Word) (s : State) : Effect s (resetSensor cmd s).2 4 := by
  unfold resetSensor
  have two := (writeCommand_effect cmd s).trans (writeCommand_effect cmd (writeCommand cmd s).2)
  split
  · simp only
    split
    · split
      · exact two
      · exact (writeCommand_effect cmd s).mono (by omega)
    · exact two
    · exact two
  · exact (raise_effect (by decide) s).mono (by omega)

theorem beginSensor_effect (s : State) : Effect s (beginSensor s).2 4 :=
  have b : Effect s (tBegin s) 0 := emit_effect (by simp [Event.address])
  have c : Effect (tBegin s) (tSetClock Config.busHz (tBegin s)) 0 := emit_effect (by simp [Event.address])
  (b.trans c).trans (resetSensor_effect _ _)

theorem decodeStatusFrame_effect (f0 f1 f2 : Byte) (s : State) : Effect s (decodeStatusFrame f0 f1 f2 s).2 0 :=
  (Effect.refl s).congr rfl rfl rfl rfl rfl rfl rfl rfl rfl

theorem decodeMeasFrame_effect (check : Bool) (f0 f1 f2 f3 f4 f5 : Byte) (s : State) :
    Effect s (decodeMeasFrame check f0 f1 f2 f3 f4 f5 s).2 0 := by
  cases check
  · exact Effect.refl s
  · exact (Effect.refl s).congr rfl rfl rfl rfl rfl rfl rfl rfl rfl

theorem finishReading_effect (s : State) : Effect s (finishReading s).2 0 := by
  unfold finishReading
  simp only
  split
  · exact (decodeMeasFrame_effect _ _ _ _ _ _ _ s).congr rfl rfl rfl rfl rfl rfl rfl rfl rfl
  · exact (decodeMeasFrame_effect _ _ _ _ _ _ _ s).trans (raise_effect (by decide) _)

theorem singleShot_effect (cmd : Word) (s : State) : Effect s (singleShot cmd s).2 9 := by
  unfold singleShot
  split
  · exact (raise_effect (by decide) s).mono (by omega)
  · next units _ =>
    have w := writeCommand_effect cmd s
    have d : Effect (writeCommand cmd s).2 (delay units (writeCommand cmd s).2) 0 := emit_effect (by simp [Event.address])
    have r := (w.trans d).trans (readBytes_effect 6 _)
    simp only
    split
    · split
      · exact r.trans (finishReading_effect _)
      · exact r
    · exact w.mono (by omega)

theorem finishStatus_effect (s : State) : Effect s (finishStatus s).2 0 := by
  unfold finishStatus
  simp only
  split
  · exact (decodeStatusFrame_effect (rbByte 0 s) (rbByte 1 s) (rbByte 2 s) s)
  · exact (decodeStatusFrame_effect (rbByte 0 s) (rbByte 1 s) (rbByte 2 s) s).trans (raise_effect (by decide) _)

theorem statusRead_effect (s : State) : Effect s (statusRead s).2 6 := by
  unfold statusRead
  have w := writeCommand_effect opStatusRead s
  have r := w.trans (readBytes_effect 3 _)
  simp only
  split
  · split
    · exact r.trans (finishStatus_effect _)
    · exact r
  · exact w.mono (by omega)

end Sys2Proof.Machine
end

