-- ==== Sys2Proof/Laws/PerInstr.lean ====
section
/-! SUPPORT. The per-instruction family `RequestLength`: an instruction's request has exactly the bytes its first byte fixes
(30_encoding.md R90; R80 for a wire opcode). -/
namespace Sys2Proof

/-- The length of a request, read from its format, its selector and, for `CHECKSUM`, the byte after it. -/
def Laws.RequestLength.expected (r : Request) : Nat :=
  match r.format with
  | .cmd16 => 2
  | .hostop => 1 + operandCount (r.bytes.getD 0 0#8) (r.bytes.getD 1 0#8)

/-- The request of a well-formed instruction is as long as its first bytes say. -/
def Laws.RequestLength.Statement (i : Instr) : Prop :=
  i.WellFormed = true → (encode i).bytes.length = Laws.RequestLength.expected (encode i)

namespace Laws.RequestLength

theorem cmdSoftReset : Statement .cmdSoftReset := fun _ => rfl
theorem cmdGeneralCallReset : Statement .cmdGeneralCallReset := fun _ => rfl
theorem cmdSsHigh : Statement .cmdSsHigh := fun _ => rfl
theorem cmdSsMedium : Statement .cmdSsMedium := fun _ => rfl
theorem cmdSsLow : Statement .cmdSsLow := fun _ => rfl
theorem cmdSsStretch0 : Statement .cmdSsStretch0 := fun _ => rfl
theorem cmdSsStretch1 : Statement .cmdSsStretch1 := fun _ => rfl
theorem cmdSsStretch2 : Statement .cmdSsStretch2 := fun _ => rfl
theorem cmdStatusRead : Statement .cmdStatusRead := fun _ => rfl
theorem cmdStatusClear : Statement .cmdStatusClear := fun _ => rfl
theorem isConnected : Statement .isConnected := fun _ => rfl
theorem begin : Statement .begin := fun _ => rfl
theorem setDefaults (useCrc celsius : Bool) : Statement (.setDefaults useCrc celsius) := fun _ => rfl
theorem reset (cmd : Word) : Statement (.reset cmd) := fun _ => rfl
theorem singleShotRead (cmd : Word) : Statement (.singleShotRead cmd) := fun _ => rfl
theorem readStatus : Statement .readStatus := fun _ => rfl
theorem clearStatus : Statement .clearStatus := fun _ => rfl
theorem getLastError : Statement .getLastError := fun _ => rfl
theorem encode (cmd : Word) : Statement (.encode cmd) := fun _ => rfl

theorem checksum (data : List Byte) : Statement (.checksum data) := fun h => by
  simp only [Instr.WellFormed, decide_eq_true_eq] at h
  have : data.length % 256 = data.length := Nat.mod_eq_of_lt (by omega)
  simp [Sys2Proof.encode, hostRequest, expected, operandCount, this]
  omega

theorem verifyGroup (g0 g1 g2 : Byte) : Statement (.verifyGroup g0 g1 g2) := fun _ => rfl
theorem decodeStatus (f0 f1 f2 : Byte) : Statement (.decodeStatus f0 f1 f2) := fun _ => rfl
theorem decodeMeas (check : Bool) (f0 f1 f2 f3 f4 f5 : Byte) :
    Statement (.decodeMeas check f0 f1 f2 f3 f4 f5) := fun _ => rfl
theorem convert (unit : TempUnit) (t h : Word) : Statement (.convert unit t h) := fun _ => rfl
theorem writeCommand (cmd : Word) : Statement (.writeCommand cmd) := fun _ => rfl
theorem readBytes (n : Nat) : Statement (.readBytes n) := fun _ => rfl

end Laws.RequestLength

end Sys2Proof
end

