-- ==== Sys2Proof/Tests/Slice0.lean ====
section
/-! SUPPORT. Tests of the model and witnesses of the statements' hypotheses. The expected results are those of
spec/95_test_vectors.md (V numbers, programs P1 to P5), or worked out from the rule named. -/
namespace Sys2Proof.Tests
open Sys2Proof Sys2Proof.Machine Host

/-! ## Helpers -/

/-- The state just constructed with 0x44 (V32), with a transport script. -/
def demo (script : List Nat) : State := { State.reset with bus := { State.reset.bus with script := script } }

/-- The same, with a transport whose answer number `m` never comes. -/
def demoSilent (script : List Nat) (m : Nat) : State :=
  { State.reset with bus := { State.reset.bus with script := script, silentFrom := some m } }

/-- `USE_CRC` = 0, `UNIT` = 0 (V28). -/
def demoPlain (script : List Nat) : State := { demo script with useCrc := false, unit := .fahrenheit }

/-- A state with other implementation parameters. -/
def demoWith (p : Params) (script : List Nat) : State := { demo script with params := p }

/-- The state with one host request pending. -/
def asking (r : Request) (s : State) : State := { s with requests := [r] }

/-- A property of the next state; false of a fault or a refusal. -/
def nextHolds (o : Outcome State Fault Refusal) (p : State → Bool) : Bool :=
  match o with
  | .next t => p t
  | .fault _ => false
  | .refused _ => false

theorem demo_answers (script : List Nat) (n : Nat) : (demo script).Answers n := fun _ h => nomatch h

theorem demoWith_answers (p : Params) (script : List Nat) (n : Nat) : (demoWith p script).Answers n := fun _ h => nomatch h

theorem demoSilent_answers (script : List Nat) (m : Nat) : (demoSilent script m).Answers m := fun k h => by
  simp only [demoSilent, Option.some.injEq] at h
  simp [demoSilent, State.reset, h]

/-! ## Well-formedness -/

theorem test_wellFormed_checksum_256 : (Instr.checksum (List.replicate 256 0#8)).WellFormed = false := by decide +kernel
theorem test_wellFormed_checksum_255 : (Instr.checksum (List.replicate 255 0#8)).WellFormed = true := by decide +kernel
theorem test_wellFormed_readBytes : (Instr.readBytes 7).WellFormed = false ∧ (Instr.readBytes 6).WellFormed = true := by
  decide
theorem test_wellFormed_params :
    ({ Params.default with num := .binary 15 .nearestEven } : Params).WellFormed = false ∧
    ({ Params.default with num := .binary 24 .nearestEven } : Params).WellFormed = true := by decide

/-! ## Decoding: one request for every constructor -/

/-- The frames of V13 as CMD16 requests, high byte first (R80, R83). -/
theorem test_decode_cmd16 :
    decode ⟨.cmd16, [0x30#8, 0xA2#8]⟩ = .ok .cmdSoftReset ∧
    decode ⟨.cmd16, [0x00#8, 0x06#8]⟩ = .ok .cmdGeneralCallReset ∧
    decode ⟨.cmd16, [0x24#8, 0x00#8]⟩ = .ok .cmdSsHigh ∧
    decode ⟨.cmd16, [0x24#8, 0x0B#8]⟩ = .ok .cmdSsMedium ∧
    decode ⟨.cmd16, [0x24#8, 0x16#8]⟩ = .ok .cmdSsLow ∧
    decode ⟨.cmd16, [0x2C#8, 0x06#8]⟩ = .ok .cmdSsStretch0 ∧
    decode ⟨.cmd16, [0x2C#8, 0x0D#8]⟩ = .ok .cmdSsStretch1 ∧
    decode ⟨.cmd16, [0x2C#8, 0x10#8]⟩ = .ok .cmdSsStretch2 ∧
    decode ⟨.cmd16, [0xF3#8, 0x2D#8]⟩ = .ok .cmdStatusRead ∧
    decode ⟨.cmd16, [0x30#8, 0x41#8]⟩ = .ok .cmdStatusClear := by decide

/-- The requests of P1 to P4, and 20, 21 by R90. -/
theorem test_decode_hostop_device :
    decode ⟨.hostop, [0x00#8]⟩ = .ok .isConnected ∧
    decode ⟨.hostop, [0x01#8]⟩ = .ok .begin ∧
    decode ⟨.hostop, [0x02#8, 0x01#8]⟩ = .ok (.setDefaults true false) ∧
    decode ⟨.hostop, [0x03#8, 0x30#8, 0xA2#8]⟩ = .ok (.reset 0x30A2#16) ∧
    decode ⟨.hostop, [0x04#8, 0x24#8, 0x0B#8]⟩ = .ok (.singleShotRead 0x240B#16) ∧
    decode ⟨.hostop, [0x05#8]⟩ = .ok .readStatus ∧
    decode ⟨.hostop, [0x06#8]⟩ = .ok .clearStatus ∧
    decode ⟨.hostop, [0x07#8]⟩ = .ok .getLastError ∧
    decode ⟨.hostop, [0x20#8, 0xF3#8, 0x2D#8]⟩ = .ok (.writeCommand 0xF32D#16) ∧
    decode ⟨.hostop, [0x21#8, 0x06#8]⟩ = .ok (.readBytes 6) := by decide

/-- The requests of P5. -/
theorem test_decode_hostop_engine :
    decode ⟨.hostop, [0x10#8, 0x24#8, 0x0B#8]⟩ = .ok (.encode 0x240B#16) ∧
    decode ⟨.hostop, [0x11#8, 0x02#8, 0xBE#8, 0xEF#8]⟩ = .ok (.checksum [0xBE#8, 0xEF#8]) ∧
    decode ⟨.hostop, [0x11#8, 0x00#8]⟩ = .ok (.checksum []) ∧
    decode ⟨.hostop, [0x12#8, 0xBE#8, 0xEF#8, 0x92#8]⟩ = .ok (.verifyGroup 0xBE#8 0xEF#8 0x92#8) ∧
    decode ⟨.hostop, [0x13#8, 0x80#8, 0x10#8, 0xE1#8]⟩ = .ok (.decodeStatus 0x80#8 0x10#8 0xE1#8) ∧
    decode ⟨.hostop, [0x14#8, 0x01#8, 0x66#8, 0x66#8, 0x93#8, 0x80#8, 0x00#8, 0xA2#8]⟩
      = .ok (.decodeMeas true 0x66#8 0x66#8 0x93#8 0x80#8 0x00#8 0xA2#8) ∧
    decode ⟨.hostop, [0x15#8, 0x00#8, 0x66#8, 0x67#8, 0x80#8, 0x01#8]⟩
      = .ok (.convert .fahrenheit 0x6667#16 0x8001#16) := by decide

/-- V33, and an opcode outside R83. -/
theorem test_decode_refused :
    decode ⟨.hostop, [0x08#8]⟩ = .error (.unknownSelector 0x08#8) ∧
    decode ⟨.hostop, [0xFF#8]⟩ = .error (.unknownSelector 0xFF#8) ∧
    decode ⟨.hostop, [0x02#8, 0x04#8]⟩ = .error (.reservedCfgBits 0x04#8) ∧
    decode ⟨.hostop, [0x14#8, 0x02#8, 0#8, 0#8, 0#8, 0#8, 0#8, 0#8]⟩ = .error (.badCheck 0x02#8) ∧
    decode ⟨.hostop, [0x15#8, 0x02#8, 0#8, 0#8, 0#8, 0#8]⟩ = .error (.badUnit 0x02#8) ∧
    decode ⟨.hostop, [0x21#8, 0x07#8]⟩ = .error (.readTooLong 7) ∧
    decode ⟨.cmd16, [0x12#8, 0x34#8]⟩ = .error (.unknownOpcode 0x1234#16) := by decide

/-- The framing of log 3: nothing, too little, too much. -/
theorem test_decode_framing :
    decode ⟨.hostop, []⟩ = .error .empty ∧
    decode ⟨.hostop, [0x03#8, 0x30#8]⟩ = .error (.wrongLength 0x03#8) ∧
    decode ⟨.hostop, [0x07#8, 0x00#8]⟩ = .error (.wrongLength 0x07#8) ∧
    decode ⟨.hostop, [0x11#8, 0x02#8, 0xBE#8]⟩ = .error (.wrongLength 0x11#8) ∧
    decode ⟨.cmd16, [0x30#8]⟩ = .error .wrongFrameLength := by decide

/-- Rows of the opcode table, their operand bits 0. -/
theorem test_decodeTableWord :
    decodeTableWord 8 0x00 = some .isConnected ∧ decodeTableWord 8 0x03 = some (.reset 0#16) ∧
    decodeTableWord 8 0x11 = some (.checksum []) ∧
    decodeTableWord 8 0x14 = some (.decodeMeas false 0#8 0#8 0#8 0#8 0#8 0#8) ∧
    decodeTableWord 8 0x15 = some (.convert .fahrenheit 0#16 0#16) ∧
    decodeTableWord 8 0x21 = some (.readBytes 0) ∧ decodeTableWord 8 0x08 = none ∧
    decodeTableWord 16 0x2416 = some .cmdSsLow ∧ decodeTableWord 16 0x1234 = none := by decide

/-! ## The step -/

/-- V32: SET_DEFAULTS(false, false) as the first request after reset. -/
theorem test_step_withFetchWord :
    nextHolds (step (State.reset.withFetchWord 8 0x02))
      (fun t => !t.useCrc && t.unit == .fahrenheit && t.requests == [] && t.bus.trace == []) = true := by decide

/-- A refused request (V33). -/
theorem test_step_refused :
    step (asking ⟨.hostop, [0x21#8, 0x07#8]⟩ (demo [])) = .refused (.malformed (.readTooLong 7)) := rfl

/-- R250: the reset input goes before a pending request; 0x45 is the new strap. -/
theorem test_step_reset :
    nextHolds (step { asking ⟨.hostop, [0x07#8]⟩ (demo []) with err := 0x0180#16, useCrc := false, resetInput := some 0x45#7 })
      (fun t => t.addr == 0x45#7 && t.err == 0#16 && t.useCrc && t.requests == [⟨.hostop, [0x07#8]⟩]) = true := by decide

/-- R26, R36: after the reset input a reading that was written is unwritten again, and holds another draw than at reset. -/
theorem test_step_reset_readings :
    nextHolds (step { demo [] with temperature := .written 25, humidity := .written 50, resetInput := some 0x44#7 })
      (fun t => t.temperature == .unwritten 2 && t.humidity == .unwritten 3) = true := by decide

/-! ## The engine -/

/-- V14. -/
theorem test_bit_step :
    [0x00#8, 0x01#8, 0x40#8, 0x7F#8, 0x80#8, 0x81#8, 0xC0#8, 0xFF#8, 0x41#8, 0x82#8].map crcBitStep
      = [0x00#8, 0x02#8, 0x80#8, 0xFE#8, 0x31#8, 0x33#8, 0xB1#8, 0xCF#8, 0x82#8, 0x35#8] := by decide

/-- V15, and from the table of V12: TAB[12] = 21, TAB[8F] = 54. -/
theorem test_byte_step :
    crcByteStep 0xFF#8 0xBE#8 = 0x0C#8 ∧ crcByteStep 0x0C#8 0xEF#8 = 0x92#8 ∧ crcByteStep 0xFF#8 0xFF#8 = 0#8 ∧
    crcByteStep 0#8 0x80#8 = 0x7A#8 ∧ crcByteStep 0#8 0x12#8 = 0x21#8 ∧ crcByteStep 0#8 0x8F#8 = 0x54#8 := by decide

/-- V1, V2, V16. -/
theorem test_checksum :
    checksum [] = 0xFF#8 ∧ checksum [0xBE#8, 0xEF#8] = 0x92#8 ∧ checksum [0#8, 0#8] = 0x81#8 ∧
    checksum [0#8, 1#8] = 0xB0#8 ∧ checksum [1#8, 0#8] = 0x75#8 ∧
    checksum [0x31#8, 0x32#8, 0x33#8, 0x34#8, 0x35#8, 0x36#8, 0x37#8, 0x38#8, 0x39#8] = 0xF7#8 := by decide +kernel

/-- P5, request 2. -/
theorem test_exec_checksum :
    nextHolds (exec (.checksum [0xBE#8, 0xEF#8]) (demo [])) (fun t => t.result == .byte 0x92#8 && t.err == 0#16) = true := by
  decide +kernel

/-- V13. -/
theorem test_exec_encode :
    nextHolds (exec (.encode 0x1234#16) (demo [])) (fun t => t.result == .frame 0x12#8 0x34#8) = true := by decide

/-- V17. -/
theorem test_exec_verifyGroup :
    nextHolds (exec (.verifyGroup 0xBE#8 0xEF#8 0x92#8) (demo [])) (fun t => t.result == .bool true) = true ∧
    nextHolds (exec (.verifyGroup 0x00#8 0x00#8 0xFF#8) (demo [])) (fun t => t.result == .bool false && t.err == 0#16)
      = true := by decide +kernel

/-- V18. -/
theorem test_exec_decodeStatus :
    nextHolds (exec (.decodeStatus 0x80#8 0x10#8 0xE1#8) (demoPlain [])) (fun t => t.result == .status (some 0x8010#16))
      = true ∧
    nextHolds (exec (.decodeStatus 0x80#8 0x10#8 0xE0#8) (demoPlain [])) (fun t => t.result == .status none) = true := by
  decide +kernel

/-- V19, rows 1 to 3. -/
theorem test_exec_decodeMeas_checked :
    nextHolds (exec (.decodeMeas true 0x66#8 0x66#8 0x93#8 0x80#8 0x00#8 0xA2#8) (demo []))
      (fun t => t.result == .codes (some (0x6666#16, 0x8000#16))) = true ∧
    nextHolds (exec (.decodeMeas true 0x66#8 0x66#8 0x93#8 0x80#8 0x00#8 0xA3#8) (demo []))
      (fun t => t.result == .codes none && t.err == 0#16) = true ∧
    nextHolds (exec (.decodeMeas true 0x66#8 0x66#8 0x92#8 0x80#8 0x00#8 0xA2#8) (demo []))
      (fun t => t.result == .codes none) = true := by decide +kernel

/-- V19, row 6. -/
theorem test_exec_decodeMeas_unchecked :
    nextHolds (exec (.decodeMeas false 0x66#8 0x66#8 0x00#8 0x80#8 0x00#8 0x00#8) (demo []))
      (fun t => t.result == .codes (some (0x6666#16, 0x8000#16))) = true := by decide

/-! ## Conversion -/

/-- V20. -/
theorem test_exec_convert :
    nextHolds (exec (.convert .celsius 0x6144#16 0x8CCD#16) (demo []))
      (fun t => t.result == .reading (some (93895 / 4369, 240300 / 4369))) = true ∧
    nextHolds (exec (.convert .fahrenheit 0x0001#16 0x0001#16) (demo []))
      (fun t => t.result == .reading (some (-214060 / 4369, 20 / 13107))) = true := by decide +kernel

/-- Raw code 1 in IEEE 754 single arithmetic (0xC233FD44) and 0xBEEF in double, both worked out outside this model (log 16). -/
theorem test_convert_binary :
    convertTemperature (.binary 24 .nearestEven) .celsius 0x0001#16 = -2948945 / 65536 ∧
    convertTemperature (.binary 53 .nearestEven) .celsius 0xBEEF#16 = 752268289711151 / 8796093022208 := by decide +kernel

/-! ## The transport operations -/

/-- V21, row 3: the short write, with both values of P_SHORT_WRITE_FAILS. -/
theorem test_exec_writeCommand_short :
    nextHolds (exec (.writeCommand 0xF32D#16) (demo [1, 0])) (fun t => t.result == .bool true && t.err == 0x0008#16) = true ∧
    nextHolds (exec (.writeCommand 0xF32D#16) (demoWith { Params.default with shortWriteFails := true } [1, 0]))
      (fun t => t.result == .bool false && t.err == 0x0008#16) = true := by decide

/-- V21, row 4, with its trace. -/
theorem test_exec_writeCommand_both :
    nextHolds (exec (.writeCommand 0xF32D#16) (demo [0, 4]))
      (fun t => t.result == .bool false && t.err == 0x000A#16 &&
        t.bus.trace == [.beginTransmission 0x44#7, .write [0xF3#8, 0x2D#8] 0, .endTransmission 4]) = true := by decide

/-- V22: the count as asked. -/
theorem test_exec_readBytes :
    nextHolds (exec (.readBytes 3) (demo [3, 0x80, 0x10, 0xE1]))
      (fun t => t.result == .bytes (some [0x80#8, 0x10#8, 0xE1#8]) && t.err == 0#16 &&
        t.bus.trace == [.requestFrom 0x44#7 3 3, .read 0x80#8, .read 0x10#8, .read 0xE1#8]) = true := by decide

/-- V22: too many bytes. -/
theorem test_exec_readBytes_count :
    nextHolds (exec (.readBytes 3) (demo [4]))
      (fun t => t.result == .bytes none && t.err == 0x0004#16 && t.bus.trace == [.requestFrom 0x44#7 3 4]) = true := by decide

/-! ## The measurement operations -/

/-- V32. -/
theorem test_exec_setDefaults :
    nextHolds (exec (.setDefaults true false) (demoPlain []))
      (fun t => t.useCrc && t.unit == .fahrenheit && t.result == .none && t.bus.trace == []) = true := by decide

/-- V23. -/
theorem test_exec_isConnected :
    nextHolds (exec .isConnected (demo [2]))
      (fun t => t.result == .bool false && t.err == 0x0002#16 &&
        t.bus.trace == [.beginTransmission 0x44#7, .endTransmission 2]) = true := by decide

/-- V24: the second script. -/
theorem test_exec_begin :
    nextHolds (exec .begin (demo [2, 0, 2, 1]))
      (fun t => t.result == .bool false && t.err == 0x0002#16 &&
        t.bus.trace == [.begin, .setClock 100000, .beginTransmission 0x44#7, .write [0x00#8, 0x06#8] 2, .endTransmission 0,
          .beginTransmission 0x44#7, .write [0x00#8, 0x06#8] 2, .endTransmission 1]) = true := by decide

/-- V26: the three settings of P_RESET_FIRST_WRITE. -/
theorem test_exec_reset_first_write :
    nextHolds (exec (.reset 0x30A2#16) (demo [2, 2, 2, 0]))
      (fun t => t.result == .bool true && t.err == 0x0002#16 && t.bus.trace.length == 6) = true ∧
    nextHolds (exec (.reset 0x30A2#16) (demoWith { Params.default with resetFirstWrite := .and } [2, 2, 2, 0]))
      (fun t => t.result == .bool false && t.err == 0x0002#16 && t.bus.trace.length == 6) = true ∧
    nextHolds (exec (.reset 0x30A2#16) (demoWith { Params.default with resetFirstWrite := .abort } [2, 2]))
      (fun t => t.result == .bool false && t.err == 0x0002#16 && t.bus.trace.length == 3) = true := by decide

/-- V25, V6. -/
theorem test_exec_reset_rejects :
    nextHolds (exec (.reset 0x1234#16) (demo []))
      (fun t => t.result == .bool false && t.err == 0x0100#16 && t.bus.trace == []) = true := by decide

/-- V27, row 1. -/
theorem test_exec_singleShotRead :
    nextHolds (exec (.singleShotRead 0x2416#16) (demo [2, 0, 6, 0x66, 0x66, 0x93, 0x80, 0x00, 0xA2]))
      (fun t => t.result == .reading (some (25, 655360 / 13107)) && t.temperature == .written 25 && t.err == 0#16 &&
        t.bus.trace.take 5 == [.beginTransmission 0x44#7, .write [0x24#8, 0x16#8] 2, .endTransmission 0, .delay 5,
          .requestFrom 0x44#7 6 6]) = true := by decide +kernel

/-- V27, row 3, and V28 on the same frame. -/
theorem test_exec_singleShotRead_gate :
    nextHolds (exec (.singleShotRead 0x240B#16) (demo [2, 0, 6, 0x66, 0x66, 0x93, 0x80, 0x00, 0xA3]))
      (fun t => t.result == .reading none && t.temperature == .unwritten 0 && t.err == 0x0080#16) = true ∧
    nextHolds (exec (.singleShotRead 0x240B#16) (demoPlain [2, 0, 6, 0x66, 0x66, 0x93, 0x80, 0x00, 0xA3]))
      (fun t => t.result == .reading (some (77, 655360 / 13107)) && t.err == 0#16) = true := by decide +kernel

/-- V29, rows 1 and 2. -/
theorem test_exec_readStatus :
    nextHolds (exec .readStatus (demo [2, 0, 3, 0x80, 0x10, 0xE1])) (fun t => t.result == .word 0x8010#16 && t.err == 0#16)
      = true ∧
    nextHolds (exec .readStatus (demoPlain [2, 0, 3, 0x80, 0x10, 0xE0]))
      (fun t => t.result == .word 0xFFFF#16 && t.err == 0x0080#16) = true := by decide +kernel

/-- V29, row 6: a short write does not stop READ_STATUS, unless P_SHORT_WRITE_FAILS. -/
theorem test_exec_readStatus_short :
    nextHolds (exec .readStatus (demo [1, 0, 3, 0x00, 0x00, 0x81])) (fun t => t.result == .word 0#16 && t.err == 0x0008#16)
      = true ∧
    nextHolds (exec .readStatus (demoWith { Params.default with shortWriteFails := true } [1, 0]))
      (fun t => t.result == .word 0xFFFF#16 && t.err == 0x0008#16 && t.bus.trace.length == 3) = true := by decide +kernel

/-- V30. -/
theorem test_exec_clearStatus :
    nextHolds (exec .clearStatus (demo [2, 2]))
      (fun t => t.result == .bool false && t.err == 0x0002#16 &&
        t.bus.trace == [.beginTransmission 0x44#7, .write [0x30#8, 0x41#8] 2, .endTransmission 2]) = true := by decide

/-- V31. -/
theorem test_exec_getLastError :
    nextHolds (exec .getLastError (raise .endTransmission (raise .wrongCommand (raise .crcCheck (demo [])))))
      (fun t => t.result == .mask 0x0182#16 && t.err == 0#16) = true := by decide

/-! ## The wire opcodes as requests -/

/-- V25 on the two reset opcodes. -/
theorem test_exec_wire_resets :
    nextHolds (exec .cmdSoftReset (demo [2, 0, 2, 0]))
      (fun t => t.result == .bool true && t.bus.trace.getD 4 .begin == .write [0x30#8, 0xA2#8] 2) = true ∧
    nextHolds (exec .cmdGeneralCallReset (demo [2, 0, 2, 0]))
      (fun t => t.result == .bool true && t.bus.trace.getD 0 .begin == .beginTransmission 0x44#7 &&
        t.bus.trace.getD 4 .begin == .write [0x00#8, 0x06#8] 2) = true := by decide

/-- V27 and V11: the three delays. -/
theorem test_exec_wire_reads :
    nextHolds (exec .cmdSsHigh (demo [2, 0, 7])) (fun t => t.bus.trace.getD 3 .begin == .delay 16 && t.err == 0x0004#16)
      = true ∧
    nextHolds (exec .cmdSsMedium (demo [2, 0, 7])) (fun t => t.bus.trace.getD 3 .begin == .delay 7) = true ∧
    nextHolds (exec .cmdSsLow (demo [2, 0, 7])) (fun t => t.bus.trace.getD 3 .begin == .delay 5) = true := by decide

/-- V27, row 7 (R86): the stretching opcodes are rejected. -/
theorem test_exec_wire_stretch :
    nextHolds (exec .cmdSsStretch0 (demo [])) (fun t => t.err == 0x0100#16 && t.bus.trace == []) = true ∧
    nextHolds (exec .cmdSsStretch1 (demo [])) (fun t => t.err == 0x0100#16 && t.bus.trace == []) = true ∧
    nextHolds (exec .cmdSsStretch2 (demo [])) (fun t => t.err == 0x0100#16 && t.bus.trace == []) = true := by decide

/-- V29 and V30. -/
theorem test_exec_wire_status :
    nextHolds (exec .cmdStatusRead (demo [2, 0, 3, 0xFF, 0xFF, 0xAC])) (fun t => t.result == .word 0xFFFF#16 && t.err == 0#16)
      = true ∧
    nextHolds (exec .cmdStatusClear (demo [2, 0])) (fun t => t.result == .bool true && t.err == 0#16) = true := by decide +kernel

/-- R142: IS_CONNECTED with a transport that never answers hangs; GET_LAST_ERROR, which asks nothing, does not. -/
theorem test_hang :
    exec .isConnected (demoSilent [0] 0) = .fault .transportHang ∧
    nextHolds (exec .getLastError (demoSilent [] 0)) (fun t => t.result == .mask 0#16) = true := ⟨rfl, by decide⟩

/-! ## Witnesses: states and operands that meet the hypotheses of each statement -/

theorem witness_DecodeOfEncodeIsTheInstruction :
    (Instr.checksum (List.replicate 255 0xFF#8)).WellFormed = true ∧ (Instr.readBytes 6).WellFormed = true ∧
    (Instr.convert .fahrenheit 0xFFFF#16 0x0001#16).WellFormed = true := by decide +kernel

theorem witness_AcceptedRequestIsItsEncoding :
    decode ⟨.hostop, [0x02#8, 0x03#8]⟩ = .ok (.setDefaults true true) ∧
    decode ⟨.cmd16, [0x00#8, 0x06#8]⟩ = .ok .cmdGeneralCallReset := by decide

/-- One boundary operand for each clause, each pending in a state without a reset input. -/
theorem witness_ReservedRequestsAreRefused :
    (0x08#8).toNat ∉ [0x00, 0x01, 0x02, 0x03, 0x04, 0x05, 0x06, 0x07, 0x10, 0x11, 0x12, 0x13, 0x14, 0x15, 0x20, 0x21] ∧
    (0x22#8).toNat ∉ [0x00, 0x01, 0x02, 0x03, 0x04, 0x05, 0x06, 0x07, 0x10, 0x11, 0x12, 0x13, 0x14, 0x15, 0x20, 0x21] ∧
    4 ≤ (0x04#8).toNat ∧ 4 ≤ (0xFF#8).toNat ∧ 2 ≤ (0x02#8).toNat ∧ 7 ≤ (0x07#8).toNat ∧
    (asking ⟨.hostop, [0x08#8]⟩ (demo [])).resetInput = none ∧
    (asking ⟨.hostop, [0x02#8, 0x04#8]⟩ (demo [])).requests.head? = some ⟨.hostop, [0x02#8, 0x04#8]⟩ ∧
    (asking ⟨.hostop, [0x21#8, 0x07#8]⟩ (demo [])).requests.head? = some ⟨.hostop, [0x21#8, 0x07#8]⟩ := by decide

theorem witness_StepRunsTheDecodedRequest :
    ∃ (s : State) (r : Request) (i : Instr), s.resetInput = none ∧ s.requests = r :: [] ∧ decode r = .ok i :=
  ⟨asking ⟨.hostop, [0x07#8]⟩ (demo []), ⟨.hostop, [0x07#8]⟩, .getLastError, rfl, rfl, by decide⟩

theorem witness_StepWithoutInputChangesNothing : (demo []).resetInput = none ∧ (demo []).requests = [] := by decide

theorem witness_ResetInputConstructs :
    ({ demo [] with resetInput := some 0x7F#7 } : State).resetInput = some 0x7F#7 := rfl

theorem witness_ChecksumSeesEverySingleBitFlip : (7 : Nat) < 8 ∧ checksum [0xBE#8, 0xEF#8] ≠ checksum [0x3E#8, 0xEF#8] := by
  decide +kernel

theorem witness_ConvertComputesTheFormulas : (demo []).params.num = .exact := rfl

theorem witness_ConvertRoundsEachOperation :
    (demoWith { Params.default with num := .binary 53 .nearestEven } []).params.num = .binary 53 .nearestEven := rfl

/-- The transport may fall silent right after the two answers. -/
theorem witness_WriteCommandSendsTheFrame : (demoSilent [2, 0] 2).Answers 2 := demoSilent_answers _ _

/-- The clauses at counts 7, 6 and 0. -/
theorem witness_ReadBytesTakesExactlyTheCount :
    6 < 7 ∧
    (busAnswer (demoSilent [5] 1).bus 0 ≠ 6 ∧ (demoSilent [5] 1).Answers 1) ∧
    (busAnswer (demoSilent [6, 1, 2, 3, 4, 5, 6] 7).bus 0 = 6 ∧ (demoSilent [6, 1, 2, 3, 4, 5, 6] 7).Answers (6 + 1)) ∧
    (busAnswer (demoSilent [0] 1).bus 0 = 0 ∧ (demoSilent [0] 1).Answers (0 + 1)) :=
  ⟨by decide, ⟨by decide, demoSilent_answers _ _⟩, ⟨by decide, demoSilent_answers _ _⟩,
    ⟨by decide, demoSilent_answers _ _⟩⟩

theorem witness_SilentTransportHangsTheOperation :
    (demoSilent [] 0).bus.silentFrom = some 0 ∧ 0 ≤ (demoSilent [] 0).bus.answered ∧ 6 ≤ 6 ∧
    isResetOpcode 0x0006#16 = true ∧ (ssDelay 0x2416#16).isSome = true := by decide

theorem witness_IsConnectedProbes : (demoSilent [0] 1).Answers 1 := demoSilent_answers _ _

/-- The two clauses of an accepted opcode, under each first-write rule. -/
theorem witness_ResetWritesTheFrameTwice :
    (let s := demoWith { Params.default with resetFirstWrite := .abort } [2, 2]
     s.params.resetFirstWrite = .abort ∧
      Spec.writeResult s.params.shortWriteFails (busAnswer s.bus 0) (busAnswer s.bus 1) = false ∧ s.Answers 2) ∧
    (let s := demoWith { Params.default with resetFirstWrite := .abort } [2, 0, 2, 5]
     (s.params.resetFirstWrite = .abort →
      Spec.writeResult s.params.shortWriteFails (busAnswer s.bus 0) (busAnswer s.bus 1) = true) ∧ s.Answers 4) ∧
    (let s := demo [2, 2, 2, 0]
     (s.params.resetFirstWrite = .abort →
      Spec.writeResult s.params.shortWriteFails (busAnswer s.bus 0) (busAnswer s.bus 1) = true) ∧ s.Answers 4) ∧
    (0x1234#16 ≠ 0x30A2#16 ∧ 0x1234#16 ≠ 0x0006#16) :=
  ⟨⟨rfl, by decide, demoWith_answers _ _ _⟩, ⟨fun _ => by decide, demoWith_answers _ _ _⟩,
    ⟨(fun h => nomatch h), demo_answers _ _⟩, by decide⟩

theorem witness_BeginIsClockThenGeneralCallReset : (demoSilent [2, 0, 2, 0] 4).Answers 4 := demoSilent_answers _ _

/-- The operands of the clauses: a rejected opcode, then for CMD_SS_LOW a failed write, a wrong count, a bad group, success. -/
theorem witness_SingleShotReadOutcomes :
    (0x2C06#16 ≠ 0x2400#16 ∧ 0x2C06#16 ≠ 0x240B#16 ∧ 0x2C06#16 ≠ 0x2416#16) ∧
    (Spec.writeResult false (busAnswer (demoSilent [2, 2] 2).bus 0) (busAnswer (demoSilent [2, 2] 2).bus 1) = false ∧
      (demoSilent [2, 2] 2).Answers 2) ∧
    (let s := demoSilent [2, 0, 7] 3
     Spec.writeResult false (busAnswer s.bus 0) (busAnswer s.bus 1) = true ∧ busAnswer s.bus 2 ≠ 6 ∧ s.Answers 3) ∧
    (let s := demoSilent [2, 0, 6, 0x66, 0x66, 0x93, 0x80, 0x00, 0xA3] 9
     Spec.writeResult false (busAnswer s.bus 0) (busAnswer s.bus 1) = true ∧ busAnswer s.bus 2 = 6 ∧ s.Answers 9 ∧
      s.useCrc = true ∧
      (Spec.groupValid (busByte s.bus 3) (busByte s.bus 4) (busByte s.bus 5) &&
        Spec.groupValid (busByte s.bus 6) (busByte s.bus 7) (busByte s.bus 8)) = false) ∧
    (let s := demoSilent [2, 0, 6, 0x66, 0x66, 0x93, 0x80, 0x00, 0xA2] 9
     Spec.writeResult false (busAnswer s.bus 0) (busAnswer s.bus 1) = true ∧ busAnswer s.bus 2 = 6 ∧ s.Answers 9 ∧
      (Spec.groupValid (busByte s.bus 3) (busByte s.bus 4) (busByte s.bus 5) &&
        Spec.groupValid (busByte s.bus 6) (busByte s.bus 7) (busByte s.bus 8)) = true) :=
  ⟨by decide, ⟨by decide, demoSilent_answers _ _⟩, ⟨by decide, by decide, demoSilent_answers _ _⟩,
    ⟨by decide +kernel, by decide +kernel, demoSilent_answers _ _, rfl, by decide +kernel⟩,
    ⟨by decide +kernel, by decide +kernel, demoSilent_answers _ _, by decide +kernel⟩⟩

/-- A failed write, a wrong count, and the right one. -/
theorem witness_ReadStatusOutcomes :
    (Spec.writeResult false (busAnswer (demoSilent [2, 1] 2).bus 0) (busAnswer (demoSilent [2, 1] 2).bus 1) = false ∧
      (demoSilent [2, 1] 2).Answers 2) ∧
    (let s := demoSilent [2, 0, 2] 3
     Spec.writeResult false (busAnswer s.bus 0) (busAnswer s.bus 1) = true ∧ busAnswer s.bus 2 ≠ 3 ∧ s.Answers 3) ∧
    (let s := demoSilent [2, 0, 3, 0x80, 0x10, 0xE1] 6
     Spec.writeResult false (busAnswer s.bus 0) (busAnswer s.bus 1) = true ∧ busAnswer s.bus 2 = 3 ∧ s.Answers 6) :=
  ⟨⟨by decide, demoSilent_answers _ _⟩, ⟨by decide, by decide, demoSilent_answers _ _⟩,
    ⟨by decide, by decide, demoSilent_answers _ _⟩⟩

theorem witness_ClearStatusWritesOneCommand : (demoSilent [2, 0] 2).Answers 2 := demoSilent_answers _ _

theorem witness_OpcodesAreGatedAboveTheEngine :
    0x2400#16 ∉ [0x30A2#16, 0x0006#16] ∧ 0x30A2#16 ∉ [0x2400#16, 0x240B#16, 0x2416#16] ∧ (demo []).Answers 2 :=
  ⟨by decide, by decide, demo_answers _ _⟩

/-- A step other than the drain, from a mask with a bit set. -/
theorem witness_ErrorBitsAreSticky :
    ∃ s t : State, step s = .next t ∧ s.resetInput = none ∧
      (∀ r ∈ s.requests.head?, decode r ≠ .ok .getLastError) ∧ s.err.getLsbD 7 = true :=
  ⟨raise .crcCheck (asking ⟨.hostop, [0x02#8, 0x00#8]⟩ (demo [])), _, rfl, rfl,
    fun r h => by cases h; decide, by decide⟩

theorem witness_StepKeepsTheStateLegal : ∃ s t : State, s.Inv ∧ step s = .next t :=
  ⟨asking ⟨.hostop, [0x03#8, 0x12#8, 0x34#8]⟩ (demo []), _, ⟨by decide, rfl, fun k h => by rcases h with h | h <;> cases h <;> decide⟩, rfl⟩

theorem witness_EveryOperationCompletes :
    (Instr.singleShotRead 0x2400#16).WellFormed = true ∧ (demoSilent [] 9).Answers 9 := ⟨rfl, demoSilent_answers _ _⟩

theorem witness_OperationsStopOnlyAsSpecified :
    exec .isConnected (demoSilent [0] 0) = .fault .transportHang ∧
    exec (.readBytes 7) (demo []) = .refused (.malformed (.readTooLong 7)) := ⟨rfl, rfl⟩

theorem witness_AddressIsImmutable : ∃ s t : State, step s = .next t ∧ s.resetInput = none :=
  ⟨asking ⟨.hostop, [0x00#8]⟩ (demo [0]), _, rfl, rfl⟩

theorem witness_OnlySetDefaultsWritesTheModeBits :
    ∃ (i : Instr) (s t : State), exec i s = .next t ∧ ∀ a b, i ≠ .setDefaults a b :=
  ⟨.getLastError, demoPlain [], _, rfl, fun _ _ h => by cases h⟩

theorem witness_OnlySuccessfulReadsWriteTheReadings :
    ∃ s t : State, exec .cmdSsLow s = .next t ∧ t.temperature ≠ s.temperature :=
  ⟨demo [2, 0, 6, 0x66, 0x66, 0x93, 0x80, 0x00, 0xA2], _, rfl, by decide +kernel⟩

/-- Readings already written, at the two ends of the range. -/
theorem witness_StepKeepsReadingsInRange :
    ∃ s t : State, s.params.num = .exact ∧ s.ReadingsInRange ∧ step s = .next t :=
  ⟨{ demo [] with temperature := .written 266, humidity := .written 0 }, _, rfl,
    ⟨fun x h => by cases h; decide +kernel, fun x h => by cases h; decide +kernel⟩, rfl⟩

theorem witness_EngineOperationsArePure : ∃ (i : Instr) (cmd : Word) (s : State), i = .encode cmd ∧ s.params = Params.default :=
  ⟨_, 0xFFFF#16, demo [], rfl, rfl⟩

theorem witness_SensorResetsLeaveTheBlock :
    ∃ (cmd : Word) (s t : State), exec (.writeCommand cmd) s = .next t :=
  ⟨0x1234#16, demo [2, 0], _, rfl⟩

theorem witness_EveryTransactionGoesToTheAddress :
    ∃ s t : State, exec .cmdGeneralCallReset s = .next t ∧ ∃ e ∈ t.bus.trace, e.address = some 0x44#7 :=
  ⟨demo [2, 0, 2, 0], _, rfl, .beginTransmission 0x44#7, by decide, rfl⟩

theorem witness_OperationsTakeAtMostNineAnswers :
    ∃ s t : State, exec (.singleShotRead 0x2416#16) s = .next t ∧ t.bus.answered = s.bus.answered + 9 :=
  ⟨demo [2, 0, 6, 0x66, 0x66, 0x93, 0x80, 0x00, 0xA2], _, rfl, by decide +kernel⟩

/-- Two states whose working registers differ. -/
theorem witness_WorkingRegistersCarryNothing :
    ∃ s t : State, s.AgreeButWorking t ∧ s.crcr ≠ t.crcr ∧ s.cb ≠ t.cb ∧ s.rb ≠ t.rb :=
  ⟨demo [], { demo [] with crcr := 0xFF#8, cb := #v[1#8, 2#8], rb := #v[1#8, 2#8, 3#8, 4#8, 5#8, 6#8] },
    ⟨rfl, rfl, rfl, rfl, rfl, rfl, rfl, rfl, rfl, rfl, rfl, rfl⟩, by decide, by decide, by decide⟩

/-- V29, row 5: the genuine 0xFFFF. -/
theorem witness_StatusWithoutFlagIsGenuine :
    ∃ s t : State, exec .readStatus s = .next t ∧ s.err = 0#16 ∧ t.err = 0#16 :=
  ⟨demo [2, 0, 3, 0xFF, 0xFF, 0xAC], _, rfl, rfl, by decide +kernel⟩

theorem witness_StatusReadIgnoresUseCrc : ∃ s t : State, exec .readStatus s = .next t :=
  ⟨demo [2, 0, 3, 0x80, 0x10, 0xE0], _, rfl⟩

theorem witness_HostReadsTheReadings :
    (demo []).temperature = .unwritten 0 ∧ (demo []).humidity = .unwritten 1 ∧
    ({ demo [] with temperature := .written (-45), humidity := .written 100 } : State).temperature = .written (-45) ∧
    ({ demo [] with temperature := .written (-45), humidity := .written 100 } : State).humidity = .written 100 :=
  ⟨rfl, rfl, rfl, rfl⟩

end Sys2Proof.Tests
end

section
/-! The step taken apart by the input it takes (00_scope.md R6, R12), and the two statements about it. -/
namespace Sys2Proof.Machine

/-- Without a reset input the oldest pending request is the next input. -/
theorem nextInput_of_requests_cons {s : State} {r : Request} {rest : List Request}
    (hreset : s.resetInput = none) (hreq : s.requests = r :: rest) : nextInput s = .request r := by
  simp only [nextInput, hreset, hreq]

/-- With neither a reset input nor a request there is no input. -/
theorem nextInput_of_requests_nil {s : State} (hreset : s.resetInput = none) (hreq : s.requests = []) :
    nextInput s = .idle := by
  simp only [nextInput, hreset, hreq]

theorem dropRequest_of_requests_cons {s : State} {r : Request} {rest : List Request} (hreq : s.requests = r :: rest) :
    dropRequest s = { s with requests := rest } := by
  rw [dropRequest, hreq, List.tail_cons]

theorem step_of_request {s : State} {r : Request} {i : Instr} (hin : nextInput s = .request r)
    (hdec : decode r = .ok i) : step s = exec i (dropRequest s) := by
  simp only [step, hin, hdec]

theorem step_of_idle {s : State} (hin : nextInput s = .idle) : step s = .next s := by
  simp only [step, hin]

/-- Settles O5: the oldest request is the step's input, and taking it off the queue leaves the rest. -/
theorem stepRunsTheDecodedRequest : Obligations.StepRunsTheDecodedRequest := by
  intro s r rest i hreset hreq hdec
  rw [step_of_request (nextInput_of_requests_cons hreset hreq) hdec, dropRequest_of_requests_cons hreq]

/-- Settles O6: the step's input is the idle one. -/
theorem stepWithoutInputChangesNothing : Obligations.StepWithoutInputChangesNothing := by
  intro s hreset hreq
  exact step_of_idle (nextInput_of_requests_nil hreset hreq)

end Sys2Proof.Machine
end

section
/-! The engine's operations and CONVERT are pure (10_state.md R33): their common form, one lemma per operation. -/
namespace Sys2Proof.Machine

/-- An operation that changes nothing but `CRCR` and the result, and whose result is the same in all states with the same
parameters (R33; that `CRCR` may change is log 6). -/
def PureOperation (i : Instr) : Prop :=
  ∀ p : Params, ∃ res : Result, ∀ s : State, s.params = p →
    ∃ c, exec i s = .next { s with crcr := c, result := res }

theorem pureOperation_encode (cmd : Word) : PureOperation (.encode cmd) := fun _ =>
  ⟨.frame (hiByte cmd) (loByte cmd), fun s _ => ⟨s.crcr, rfl⟩⟩

theorem pureOperation_checksum (l : List Byte) : PureOperation (.checksum l) := fun _ =>
  ⟨.byte (checksum l), fun _ _ => ⟨checksum l, rfl⟩⟩

theorem pureOperation_verifyGroup (g0 g1 g2 : Byte) : PureOperation (.verifyGroup g0 g1 g2) := fun _ =>
  ⟨.bool (checksum [g0, g1] == g2), fun _ _ => ⟨checksum [g0, g1], rfl⟩⟩

theorem pureOperation_decodeStatus (f0 f1 f2 : Byte) : PureOperation (.decodeStatus f0 f1 f2) := fun _ =>
  ⟨.status (if checksum [f0, f1] == f2 then some (joinWord f0 f1) else none), fun _ _ => ⟨checksum [f0, f1], rfl⟩⟩

theorem pureOperation_decodeMeas (check : Bool) (f0 f1 f2 f3 f4 f5 : Byte) :
    PureOperation (.decodeMeas check f0 f1 f2 f3 f4 f5) := fun _ => by
  cases check with
  | false => exact ⟨.codes (some (joinWord f0 f1, joinWord f3 f4)), fun s _ => ⟨s.crcr, rfl⟩⟩
  | true =>
    exact ⟨.codes (if checksum [f0, f1] == f2 && checksum [f3, f4] == f5 then some (joinWord f0 f1, joinWord f3 f4) else none),
      fun _ _ => ⟨checksum [f3, f4], rfl⟩⟩

/-- The one parameter that `CONVERT` reads is `P_NUM` (R201). -/
theorem pureOperation_convert (unit : TempUnit) (t h : Word) : PureOperation (.convert unit t h) := fun p =>
  ⟨.reading (some (convertCodes p.num unit t h)), fun s hp => ⟨s.crcr, hp ▸ rfl⟩⟩

/-- What a pure operation leaves: every field but `CRCR` and the result. -/
theorem PureOperation.next_eq {i : Instr} (hi : PureOperation i) {s t : State} (h : exec i s = .next t) :
    t = { s with crcr := t.crcr, result := t.result } := by
  obtain ⟨res, hres⟩ := hi s.params
  obtain ⟨c, hc⟩ := hres s rfl
  obtain rfl := Host.Outcome.next.inj (hc.symm.trans h)
  rfl

/-- Settles O46, operation by operation. -/
theorem engineOperationsArePure : Obligations.EngineOperationsArePure := by
  intro i hi
  obtain ⟨_, rfl⟩ | ⟨_, rfl⟩ | ⟨_, _, _, rfl⟩ | ⟨_, _, _, rfl⟩ | ⟨_, _, _, _, _, _, _, rfl⟩ | ⟨_, _, _, rfl⟩ := hi
  · exact pureOperation_encode _
  · exact pureOperation_checksum _
  · exact pureOperation_verifyGroup _ _ _
  · exact pureOperation_decodeStatus _ _ _
  · exact pureOperation_decodeMeas _ _ _ _ _ _ _
  · exact pureOperation_convert _ _ _

end Sys2Proof.Machine
end

section
/-! What an instruction that answers a next state can have done: an `Effect`, the write of the mode bits, or the drain. The
address, the parameters and the mode bits are read off it (10_state.md R22, R24, R25; 70_reset_and_hazards.md R251). -/
namespace Sys2Proof.Machine

/-- An operation ends with the effect of its run: delivering the result adds nothing to it. -/
theorem effect_of_complete {s r t : State} {res : Result} {m n : Nat} (h : complete s (deliver res r) = .next t)
    (hr : Effect s r m) (hmn : m ≤ n) : Effect s t n := by
  rw [complete_next h]
  exact (hr.mono hmn).congr rfl rfl rfl rfl rfl rfl rfl rfl rfl

theorem PureOperation.effect {i : Instr} (hi : PureOperation i) {s t : State} (h : exec i s = .next t) : Effect s t 0 := by
  rw [hi.next_eq h]
  exact (Effect.refl s).congr rfl rfl rfl rfl rfl rfl rfl rfl rfl

/-- `READ_BYTES` answers a next state only within `P_RXBUF_LEN` (R92), as the run of its loop. -/
theorem execReadBytes_next {n : Nat} {s t : State} (h : exec (.readBytes n) s = .next t) :
    n ≤ 6 ∧ complete s (deliver (.bytes (readBytes n s).1) (readBytes n s).2) = .next t := by
  simp only [exec, execReadBytes] at h
  split at h
  · next hn => exact ⟨hn, h⟩
  · cases h

/-- Everything an instruction can do to the registers and the transport, but for the readings, the working registers and the
result: an `Effect` of at most nine answers, SET_DEFAULTS (R160), or the drain (R212). -/
theorem exec_effect {i : Instr} {s t : State} (h : exec i s = .next t) :
    Effect s t 9 ∨
    (∃ a b, i = .setDefaults a b ∧ t = deliver .none { s with useCrc := a, unit := unitOfBool b }) ∨
    (i = .getLastError ∧ t = deliver (.mask s.err) (clearErr s)) := by
  cases i with
  | setDefaults a b => cases h; exact .inr (.inl ⟨a, b, rfl, rfl⟩)
  | getLastError => cases h; exact .inr (.inr ⟨rfl, rfl⟩)
  | encode => exact .inl (((pureOperation_encode _).effect h).mono (by decide))
  | checksum => exact .inl (((pureOperation_checksum _).effect h).mono (by decide))
  | verifyGroup => exact .inl (((pureOperation_verifyGroup _ _ _).effect h).mono (by decide))
  | decodeStatus => exact .inl (((pureOperation_decodeStatus _ _ _).effect h).mono (by decide))
  | decodeMeas => exact .inl (((pureOperation_decodeMeas _ _ _ _ _ _ _).effect h).mono (by decide))
  | convert => exact .inl (((pureOperation_convert _ _ _).effect h).mono (by decide))
  | isConnected => exact .inl (effect_of_complete h (probe_effect s) (by decide))
  | begin => exact .inl (effect_of_complete h (beginSensor_effect s) (by decide))
  | reset | cmdSoftReset | cmdGeneralCallReset => exact .inl (effect_of_complete h (resetSensor_effect _ s) (by decide))
  | singleShotRead | cmdSsHigh | cmdSsMedium | cmdSsLow | cmdSsStretch0 | cmdSsStretch1 | cmdSsStretch2 =>
    exact .inl (effect_of_complete h (singleShot_effect _ s) (by decide))
  | readStatus | cmdStatusRead => exact .inl (effect_of_complete h (statusRead_effect s) (by decide))
  | writeCommand | clearStatus | cmdStatusClear =>
    exact .inl (effect_of_complete h (writeCommand_effect _ s) (by decide))
  | readBytes n =>
    obtain ⟨hn, h⟩ := execReadBytes_next h
    exact .inl (effect_of_complete h (readBytes_effect n s) (by omega))

/-- No instruction writes ADDR or a parameter. -/
theorem exec_addr_params {i : Instr} {s t : State} (h : exec i s = .next t) : t.addr = s.addr ∧ t.params = s.params := by
  obtain e | ⟨_, _, -, rfl⟩ | ⟨-, rfl⟩ := exec_effect h
  · exact ⟨e.addr, e.params⟩
  · exact ⟨rfl, rfl⟩
  · exact ⟨rfl, rfl⟩

/-- Settles O41: the reset input writes ADDR alone of the two, an instruction neither. -/
theorem addressIsImmutable : Obligations.AddressIsImmutable := by
  intro s t h
  obtain ⟨a, ha, rfl⟩ | ⟨-, _, _, _, -, -, hexec⟩ | ⟨-, -, rfl⟩ := step_cases h
  · exact ⟨fun hnone => by simp [hnone] at ha, rfl⟩
  · obtain ⟨haddr, hparams⟩ := exec_addr_params hexec
    exact ⟨fun _ => haddr, hparams⟩
  · exact ⟨fun _ => rfl, rfl⟩

/-- Settles O42: neither an `Effect` nor the drain writes the mode bits. -/
theorem onlySetDefaultsWritesTheModeBits : Obligations.OnlySetDefaultsWritesTheModeBits := by
  intro i s t h hi
  obtain e | ⟨a, b, rfl, -⟩ | ⟨-, rfl⟩ := exec_effect h
  · exact ⟨e.useCrc, e.unit⟩
  · exact absurd rfl (hi a b)
  · exact ⟨rfl, rfl⟩

end Sys2Proof.Machine
end

section
/-! Who writes TEMPERATURE and HUMIDITY: only a single-shot read that delivers the two values it stores
(10_state.md R26, R27; 42_measurement_ops.md R177, R179). -/
namespace Sys2Proof.Machine

/-- Both readings stand as they stood. -/
def KeepsReadings (s t : State) : Prop := t.temperature = s.temperature ∧ t.humidity = s.humidity

theorem KeepsReadings.trans {s t u : State} : KeepsReadings s t → KeepsReadings t u → KeepsReadings s u
  | ⟨ht, hh⟩, ⟨kt, kh⟩ => ⟨kt.trans ht, kh.trans hh⟩

theorem writeCommand_keepsReadings (cmd : Word) (s : State) : KeepsReadings s (writeCommand cmd s).2 := by
  rw [writeCommand_eq]
  exact ⟨rfl, rfl⟩

theorem readBytes_keepsReadings (n : Nat) (s : State) : KeepsReadings s (readBytes n s).2 := by
  rw [readBytes_eq]
  split
  · exact ⟨rfl, rfl⟩
  · exact ⟨rfl, rfl⟩

theorem probe_keepsReadings (s : State) : KeepsReadings s (probe s).2 := by
  rw [probe_eq]
  exact ⟨rfl, rfl⟩

theorem resetSensor_keepsReadings (cmd : Word) (s : State) : KeepsReadings s (resetSensor cmd s).2 := by
  have two := (writeCommand_keepsReadings cmd s).trans (writeCommand_keepsReadings cmd (writeCommand cmd s).2)
  unfold resetSensor
  split
  · simp only
    split
    · split
      · exact two
      · exact writeCommand_keepsReadings cmd s
    · exact two
    · exact two
  · exact ⟨rfl, rfl⟩

theorem beginSensor_keepsReadings (s : State) : KeepsReadings s (beginSensor s).2 :=
  resetSensor_keepsReadings opGeneralCallReset (tSetClock Config.busHz (tBegin s))

theorem finishStatus_keepsReadings (s : State) : KeepsReadings s (finishStatus s).2 := by
  rw [finishStatus_eq]
  split
  · exact ⟨rfl, rfl⟩
  · exact ⟨rfl, rfl⟩

theorem statusRead_keepsReadings (s : State) : KeepsReadings s (statusRead s).2 := by
  have w := writeCommand_keepsReadings opStatusRead s
  have r := w.trans (readBytes_keepsReadings 3 _)
  unfold statusRead
  simp only
  split
  · split
    · exact r.trans (finishStatus_keepsReadings _)
    · exact r
  · exact w

/-- The run of a read from `s` to `r` leaves both readings, or stores in them the very values it delivers (R177, R179). -/
def StoresOnlyDelivered (s : State) (r : Option (Num × Num) × State) : Prop :=
  KeepsReadings s r.2 ∨ ∃ x y, r.1 = some (x, y) ∧ r.2.temperature = .written x ∧ r.2.humidity = .written y

theorem finishReading_storesOnlyDelivered (s : State) : StoresOnlyDelivered s (finishReading s) := by
  rw [finishReading_eq]
  simp only
  split
  · exact .inl ⟨rfl, rfl⟩
  · exact .inr ⟨_, _, rfl, rfl, rfl⟩

theorem singleShot_storesOnlyDelivered (cmd : Word) (s : State) : StoresOnlyDelivered s (singleShot cmd s) := by
  unfold singleShot
  split
  · exact .inl ⟨rfl, rfl⟩
  · next units _ =>
    have w := writeCommand_keepsReadings cmd s
    have r : KeepsReadings s (readBytes 6 (delay units (writeCommand cmd s).2)).2 :=
      w.trans (readBytes_keepsReadings 6 (delay units (writeCommand cmd s).2))
    simp only
    split
    · split
      · exact (finishReading_storesOnlyDelivered _).imp_left r.trans
      · exact .inl r
    · exact .inl w

theorem keepsReadings_of_complete {s r t : State} {res : Result} (h : complete s (deliver res r) = .next t)
    (hr : KeepsReadings s r) : KeepsReadings s t := by
  rw [complete_next h]
  exact hr

theorem PureOperation.keepsReadings {i : Instr} (hi : PureOperation i) {s t : State} (h : exec i s = .next t) :
    KeepsReadings s t := by
  rw [hi.next_eq h]
  exact ⟨rfl, rfl⟩

/-- SINGLE_SHOT_READ accepts just the three non-stretching opcodes (R86, R175). -/
theorem ssDelay_eq_none_iff (cmd : Word) : ssDelay cmd = none ↔ cmd ∉ [opSsHigh, opSsMedium, opSsLow] := by
  simp only [ssDelay]
  split_ifs <;> simp [*]

/-- What a single-shot read of any opcode does to the readings, its result delivered: it leaves them, or the opcode is an
accepted one and the delivered values are the stored ones. -/
theorem readings_of_complete_singleShot {cmd : Word} {s t : State}
    (h : complete s (deliver (.reading (singleShot cmd s).1) (singleShot cmd s).2) = .next t) :
    KeepsReadings s t ∨
    cmd ∈ [opSsHigh, opSsMedium, opSsLow] ∧
      ∃ x y, t.result = .reading (some (x, y)) ∧ t.temperature = .written x ∧ t.humidity = .written y := by
  rw [complete_next h]
  by_cases hcmd : cmd ∈ [opSsHigh, opSsMedium, opSsLow]
  · refine (singleShot_storesOnlyDelivered cmd s).imp id fun ⟨x, y, hxy, ht, hh⟩ => ⟨hcmd, x, y, ?_, ht, hh⟩
    rw [hxy]; rfl
  · rw [singleShot_rejected ((ssDelay_eq_none_iff cmd).2 hcmd)]
    exact .inl ⟨rfl, rfl⟩

/-- Settles O43: the single-shot reads by what their run stores, every other instruction by leaving the readings. -/
theorem onlySuccessfulReadsWriteTheReadings : Obligations.OnlySuccessfulReadsWriteTheReadings := by
  intro i s t h
  cases i with
  | singleShotRead cmd =>
    exact (readings_of_complete_singleShot h).imp id fun ⟨hcmd, x, y, hr, ht, hh⟩ =>
      ⟨x, y, hr, ht, hh, .inl ⟨cmd, rfl, hcmd⟩⟩
  | cmdSsHigh | cmdSsMedium | cmdSsLow =>
    exact (readings_of_complete_singleShot h).imp id fun ⟨_, x, y, hr, ht, hh⟩ => ⟨x, y, hr, ht, hh, .inr (by simp)⟩
  | cmdSsStretch0 | cmdSsStretch1 | cmdSsStretch2 =>
    exact .inl ((readings_of_complete_singleShot h).resolve_right fun ⟨hcmd, _⟩ => absurd hcmd (by decide))
  | setDefaults | getLastError => cases h; exact .inl ⟨rfl, rfl⟩
  | encode => exact .inl ((pureOperation_encode _).keepsReadings h)
  | checksum => exact .inl ((pureOperation_checksum _).keepsReadings h)
  | verifyGroup => exact .inl ((pureOperation_verifyGroup _ _ _).keepsReadings h)
  | decodeStatus => exact .inl ((pureOperation_decodeStatus _ _ _).keepsReadings h)
  | decodeMeas => exact .inl ((pureOperation_decodeMeas _ _ _ _ _ _ _).keepsReadings h)
  | convert => exact .inl ((pureOperation_convert _ _ _).keepsReadings h)
  | isConnected => exact .inl (keepsReadings_of_complete h (probe_keepsReadings s))
  | begin => exact .inl (keepsReadings_of_complete h (beginSensor_keepsReadings s))
  | reset | cmdSoftReset | cmdGeneralCallReset =>
    exact .inl (keepsReadings_of_complete h (resetSensor_keepsReadings _ s))
  | readStatus | cmdStatusRead => exact .inl (keepsReadings_of_complete h (statusRead_keepsReadings s))
  | writeCommand | clearStatus | cmdStatusClear =>
    exact .inl (keepsReadings_of_complete h (writeCommand_keepsReadings _ s))
  | readBytes n => exact .inl (keepsReadings_of_complete (execReadBytes_next h).2 (readBytes_keepsReadings n s))

/-- Settles O53: the host's look is the value the reading holds, `readingValue`. -/
theorem hostReadsTheReadings : Obligations.HostReadsTheReadings := by
  intro s
  refine ⟨fun x hx => ?_, fun k hk => ?_, fun x hx => ?_, fun k hk => ?_⟩
  · rw [hostTemperature, hx, readingValue_written]
  · rw [hostTemperature, hk, readingValue_unwritten]
  · rw [hostHumidity, hx, readingValue_written]
  · rw [hostHumidity, hk, readingValue_unwritten]

end Sys2Proof.Machine
end

section
/-! CRCR, CB and RB carry nothing from one operation to the next (10_state.md R28, R29): two runs from states that agree but
for them give the same value and end in states that agree again. -/
namespace Sys2Proof.Machine

/-- Two states agree but for the working registers exactly when one is the other with these overwritten. -/
theorem agreeButWorking_iff {s t : State} :
    s.AgreeButWorking t ↔ ∃ c cb rb, t = { s with crcr := c, cb := cb, rb := rb } := by
  constructor
  · intro h
    refine ⟨t.crcr, t.cb, t.rb, ?_⟩
    rw [h.addr, h.err, h.useCrc, h.unit, h.temperature, h.humidity, h.draws, h.params, h.bus, h.requests, h.resetInput,
      h.result]
  · rintro ⟨_, _, _, rfl⟩
    constructor <;> rfl

theorem agreeButWorking_overwritten (s : State) (c : Byte) (cb : Vector Byte 2) (rb : Vector Byte 6) :
    s.AgreeButWorking { s with crcr := c, cb := cb, rb := rb } :=
  agreeButWorking_iff.2 ⟨c, cb, rb, rfl⟩

/-- Two runs with the same value, whose states agree but for the working registers. -/
structure SameRun {α : Type} (p q : α × State) : Prop where
  value : p.1 = q.1
  state : p.2.AgreeButWorking q.2

/-! ### The updates of the state -/

theorem State.AgreeButWorking.raise {s t : State} (h : s.AgreeButWorking t) (f : Flag) :
    (raise f s).AgreeButWorking (raise f t) :=
  { h with err := by rw [raise_err, raise_err, h.err] }

theorem State.AgreeButWorking.emit {s t : State} (h : s.AgreeButWorking t) (e : Event) :
    (emit e s).AgreeButWorking (emit e t) :=
  { h with bus := by rw [emit_bus, emit_bus, h.bus] }

theorem State.AgreeButWorking.deliver {s t : State} (h : s.AgreeButWorking t) (r : Result) :
    (deliver r s).AgreeButWorking (deliver r t) :=
  { h with result := rfl }

theorem State.AgreeButWorking.clearErr {s t : State} (h : s.AgreeButWorking t) :
    (clearErr s).AgreeButWorking (clearErr t) :=
  { h with err := rfl }

theorem State.AgreeButWorking.dropRequest {s t : State} (h : s.AgreeButWorking t) :
    (dropRequest s).AgreeButWorking (dropRequest t) :=
  { h with requests := by rw [dropRequest_requests, dropRequest_requests, h.requests] }

theorem State.AgreeButWorking.construct {s t : State} (h : s.AgreeButWorking t) (a : BusAddr) :
    (construct a s).AgreeButWorking (construct a t) := by
  obtain ⟨_, _, _, rfl⟩ := agreeButWorking_iff.1 h
  exact agreeButWorking_overwritten _ _ _ _

/-! ### The runs of the operations -/

/-- The frame that is sent is the one just written to `CB`. -/
theorem writeCommand_sameRun (cmd : Word) {s t : State} (h : s.AgreeButWorking t) :
    SameRun (writeCommand cmd s) (writeCommand cmd t) := by
  obtain ⟨c, cb, rb, rfl⟩ := agreeButWorking_iff.1 h
  rw [writeCommand_eq, writeCommand_eq]
  exact ⟨rfl, agreeButWorking_overwritten _ c _ rb⟩

theorem probe_sameRun {s t : State} (h : s.AgreeButWorking t) : SameRun (probe s) (probe t) := by
  obtain ⟨c, cb, rb, rfl⟩ := agreeButWorking_iff.1 h
  rw [probe_eq, probe_eq]
  exact ⟨rfl, agreeButWorking_overwritten _ c cb rb⟩

theorem length_nextBytes (b : Bus) (skip n : Nat) : (nextBytes b skip n).length = n := by
  simp [nextBytes]

/-- Where a list was stored in `RB`, nothing is left of what `RB` held (R51). -/
theorem storeBytes_get_of_lt {l : List Byte} {j : Fin 6} (hj : j.val < l.length) (rb rb' : Vector Byte 6) :
    (storeBytes rb 0 l)[j] = (storeBytes rb' 0 l)[j] := by
  rw [storeBytes_get, storeBytes_get, dif_pos (by omega), dif_pos (by omega)]

/-- The bytes delivered are those just stored in `RB`. -/
theorem readBytes_sameRun {n : Nat} (hn : n ≤ 6) {s t : State} (h : s.AgreeButWorking t) :
    SameRun (readBytes n s) (readBytes n t) := by
  obtain ⟨c, cb, rb, rfl⟩ := agreeButWorking_iff.1 h
  rw [readBytes_eq, readBytes_eq]
  by_cases hk : busAnswer s.bus 0 = n
  · have taken (b : Vector Byte 6) : (storeBytes b 0 (nextBytes s.bus 1 n)).toList.take n = nextBytes s.bus 1 n := by
      simpa only [length_nextBytes] using storeBytes_take b (nextBytes s.bus 1 n) (by rwa [length_nextBytes])
    simp only [hk, if_true, readRB, taken]
    exact ⟨rfl, agreeButWorking_overwritten _ c cb _⟩
  · simp only [hk, if_false]
    exact ⟨rfl, agreeButWorking_overwritten _ c cb rb⟩

/-- A read that succeeds leaves the same first `n` bytes in `RB`, whatever `RB` held. -/
theorem rbByte_readBytes {n : Nat} {s t : State} (h : s.AgreeButWorking t) (hok : (readBytes n s).1.isSome)
    {j : Fin 6} (hj : j.val < n) : rbByte j (readBytes n s).2 = rbByte j (readBytes n t).2 := by
  obtain ⟨c, cb, rb, rfl⟩ := agreeButWorking_iff.1 h
  rw [readBytes_eq] at hok ⊢
  rw [readBytes_eq]
  by_cases hk : busAnswer s.bus 0 = n
  · simp only [hk, if_true, rbByte]
    exact storeBytes_get_of_lt (by rwa [length_nextBytes]) _ _
  · simp [hk] at hok

theorem resetSensor_sameRun (cmd : Word) {s t : State} (h : s.AgreeButWorking t) :
    SameRun (resetSensor cmd s) (resetSensor cmd t) := by
  have w1 := writeCommand_sameRun cmd h
  have w2 := writeCommand_sameRun cmd w1.state
  unfold resetSensor
  split
  · simp only [← h.params, ← w1.value, ← w2.value]
    split
    · split
      · exact w2
      · exact ⟨rfl, w1.state⟩
    · exact ⟨rfl, w2.state⟩
    · exact w2
  · exact ⟨rfl, h.raise .wrongCommand⟩

theorem beginSensor_sameRun {s t : State} (h : s.AgreeButWorking t) : SameRun (beginSensor s) (beginSensor t) :=
  resetSensor_sameRun opGeneralCallReset ((h.emit .begin).emit (.setClock Config.busHz))

/-- The end of a read looks at no working register but the frame in `RB`. -/
theorem finishReading_sameRun {s t : State} (h : s.AgreeButWorking t) (hrb : ∀ j, rbByte j s = rbByte j t) :
    SameRun (finishReading s) (finishReading t) := by
  have hrb : s.rb = t.rb := Vector.ext fun j hj => hrb ⟨j, hj⟩
  obtain ⟨c, cb, rb, rfl⟩ := agreeButWorking_iff.1 h
  obtain rfl : s.rb = rb := hrb
  rw [finishReading_eq, finishReading_eq]
  simp only
  split
  · exact ⟨rfl, agreeButWorking_overwritten _ _ cb _⟩
  · exact ⟨rfl, agreeButWorking_overwritten _ _ cb _⟩

/-- The end of a status read looks at no working register but the three bytes of the group in `RB`. -/
theorem finishStatus_sameRun {s t : State} (h : s.AgreeButWorking t) (h0 : rbByte 0 s = rbByte 0 t)
    (h1 : rbByte 1 s = rbByte 1 t) (h2 : rbByte 2 s = rbByte 2 t) : SameRun (finishStatus s) (finishStatus t) := by
  obtain ⟨c, cb, rb, rfl⟩ := agreeButWorking_iff.1 h
  have h0 : s.rb[0] = rb[0] := h0
  have h1 : s.rb[1] = rb[1] := h1
  have h2 : s.rb[2] = rb[2] := h2
  rw [finishStatus_eq, finishStatus_eq]
  simp only [h0, h1, h2]
  split
  · exact ⟨rfl, agreeButWorking_overwritten _ _ cb rb⟩
  · exact ⟨rfl, agreeButWorking_overwritten _ _ cb rb⟩

theorem singleShot_sameRun (cmd : Word) {s t : State} (h : s.AgreeButWorking t) :
    SameRun (singleShot cmd s) (singleShot cmd t) := by
  unfold singleShot
  split
  · exact ⟨rfl, h.raise .wrongCommand⟩
  · next units _ =>
    have w := writeCommand_sameRun cmd h
    have d : (delay units (writeCommand cmd s).2).AgreeButWorking (delay units (writeCommand cmd t).2) :=
      w.state.emit (.delay units)
    have r := readBytes_sameRun (Nat.le_refl 6) d
    simp only [← w.value, ← r.value]
    split
    · split
      · next hok => exact finishReading_sameRun r.state fun j => rbByte_readBytes d (by rw [hok]; rfl) j.isLt
      · exact ⟨rfl, r.state⟩
    · exact ⟨rfl, w.state⟩

theorem statusRead_sameRun {s t : State} (h : s.AgreeButWorking t) : SameRun (statusRead s) (statusRead t) := by
  have w := writeCommand_sameRun opStatusRead h
  have r := readBytes_sameRun (show 3 ≤ 6 by decide) w.state
  unfold statusRead
  simp only [← w.value, ← r.value]
  split
  · split
    · next hok =>
      have hok : (readBytes 3 (writeCommand opStatusRead s).2).1.isSome := by rw [hok]; rfl
      exact finishStatus_sameRun r.state (rbByte_readBytes w.state hok (by decide))
        (rbByte_readBytes w.state hok (by decide)) (rbByte_readBytes w.state hok (by decide))
    · exact ⟨rfl, r.state⟩
  · exact ⟨rfl, w.state⟩

/-! ### The instructions and the step -/

/-- The same run ends the same way: it hangs in both states or in neither, and delivers the same result. -/
theorem agreeOutcome_complete {α : Type} (result : α → Result) {s t : State} (h : s.AgreeButWorking t) {p q : α × State}
    (hr : SameRun p q) :
    AgreeOutcome (complete s (deliver (result p.1) p.2)) (complete t (deliver (result q.1) q.2)) := by
  unfold complete
  simp only [deliver_bus, ← h.bus, ← hr.state.bus, ← hr.value]
  split
  · rfl
  · exact hr.state.deliver (result p.1)

theorem PureOperation.agreeOutcome {i : Instr} (hi : PureOperation i) {s t : State} (h : s.AgreeButWorking t) :
    AgreeOutcome (exec i s) (exec i t) := by
  obtain ⟨res, hres⟩ := hi s.params
  obtain ⟨c, hs⟩ := hres s rfl
  obtain ⟨c', ht⟩ := hres t h.params.symm
  rw [hs, ht]
  exact { h with result := rfl }

/-- Every instruction, run in two states that agree but for the working registers. -/
theorem exec_agreeOutcome (i : Instr) {s t : State} (h : s.AgreeButWorking t) : AgreeOutcome (exec i s) (exec i t) := by
  cases i with
  | setDefaults => exact { h with useCrc := rfl, unit := rfl, result := rfl }
  | getLastError =>
    simp only [exec, execGetLastError, ← h.err]
    exact h.clearErr.deliver (.mask s.err)
  | encode => exact (pureOperation_encode _).agreeOutcome h
  | checksum => exact (pureOperation_checksum _).agreeOutcome h
  | verifyGroup => exact (pureOperation_verifyGroup _ _ _).agreeOutcome h
  | decodeStatus => exact (pureOperation_decodeStatus _ _ _).agreeOutcome h
  | decodeMeas => exact (pureOperation_decodeMeas _ _ _ _ _ _ _).agreeOutcome h
  | convert => exact (pureOperation_convert _ _ _).agreeOutcome h
  | isConnected => exact agreeOutcome_complete .bool h (probe_sameRun h)
  | begin => exact agreeOutcome_complete .bool h (beginSensor_sameRun h)
  | reset | cmdSoftReset | cmdGeneralCallReset => exact agreeOutcome_complete .bool h (resetSensor_sameRun _ h)
  | singleShotRead | cmdSsHigh | cmdSsMedium | cmdSsLow | cmdSsStretch0 | cmdSsStretch1 | cmdSsStretch2 =>
    exact agreeOutcome_complete .reading h (singleShot_sameRun _ h)
  | readStatus | cmdStatusRead => exact agreeOutcome_complete .word h (statusRead_sameRun h)
  | writeCommand | clearStatus | cmdStatusClear => exact agreeOutcome_complete .bool h (writeCommand_sameRun _ h)
  | readBytes n =>
    simp only [exec, execReadBytes]
    split
    · next hn => exact agreeOutcome_complete .bytes h (readBytes_sameRun hn h)
    · rfl

/-- Settles O50: both steps take the same input, and what it asks for agrees. -/
theorem workingRegistersCarryNothing : Obligations.WorkingRegistersCarryNothing := by
  intro s t h
  have hin : nextInput t = nextInput s := by rw [nextInput, nextInput, h.resetInput, h.requests]
  simp only [step, hin]
  split
  · exact h.construct _
  · split
    · exact exec_agreeOutcome _ h.dropRequest
    · rfl
  · exact h

end Sys2Proof.Machine
end

section
/-! The state after reset (10_state.md R36). -/
namespace Sys2Proof.Machine

theorem reset_temperature : State.reset.temperature = .unwritten 0 := rfl

theorem reset_humidity : State.reset.humidity = .unwritten 1 := rfl

/-- Settles O8, field by field. -/
theorem resetStateIsAsSpecified : Obligations.ResetStateIsAsSpecified :=
  ⟨rfl, rfl, rfl, rfl, by rw [reset_temperature, isWritten_unwritten], by rw [reset_humidity, isWritten_unwritten]⟩

/-- Settles O38: no flag is set, and the two readings hold the two draws taken. -/
theorem resetStateIsLegal : Obligations.ResetStateIsLegal where
  reservedFlagsClear := by decide
  readingsTogether := by rw [reset_temperature, reset_humidity, isWritten_unwritten, isWritten_unwritten]
  drawsTaken k hk := by
    obtain hk | hk := hk
    · cases hk; decide
    · cases hk; decide

/-- Settles O45: an unwritten reading is in range. -/
theorem resetReadingsAreInRange : Obligations.ResetReadingsAreInRange where
  temperature x hx := by rw [reset_temperature] at hx; cases hx
  humidity x hx := by rw [reset_humidity] at hx; cases hx

end Sys2Proof.Machine
end

section
/-! What an instruction does on the bus (20_memory.md R52; 42_measurement_ops.md R171). -/
namespace Sys2Proof.Machine

/-- An instruction takes at most nine answers, and every event it adds that names an address names ADDR: an `Effect` says so,
and neither SET_DEFAULTS nor the drain uses the bus. -/
theorem exec_bus {i : Instr} {s t : State} (h : exec i s = .next t) :
    ∃ n es, n ≤ 9 ∧ t.bus = s.bus.after n es ∧ ∀ e ∈ es, ∀ a, e.address = some a → a = s.addr := by
  have unused : Effect s s 9 := (Effect.refl s).mono (by decide)
  obtain e | ⟨_, _, -, rfl⟩ | ⟨-, rfl⟩ := exec_effect h
  · exact e.bus
  · exact unused.bus
  · exact unused.bus

/-- Settles O48: the events an instruction adds are those of its use of the bus. -/
theorem everyTransactionGoesToTheAddress : Obligations.EveryTransactionGoesToTheAddress := by
  intro i s t h
  obtain ⟨n, es, -, hbus, haddr⟩ := exec_bus h
  exact ⟨es, by rw [hbus, after_trace], haddr⟩

end Sys2Proof.Machine
end

section
/-! Every step keeps the state legal (10_state.md R23, R26; 30_encoding.md R87; 60_exceptions.md R222). -/
namespace Sys2Proof.Machine

/-- No instruction draws a value for an unwritten reading: only reset/construct does (log 10). -/
theorem exec_draws {i : Instr} {s t : State} (h : exec i s = .next t) : t.draws = s.draws := by
  obtain e | ⟨_, _, -, rfl⟩ | ⟨-, rfl⟩ := exec_effect h
  · exact e.draws
  · exact deliver_draws _ _
  · rw [deliver_draws, clearErr_draws]

/-- An instruction raises no flag but those some rule triggers (R221), so the reserved bits of `ERR` stay 0 (R87, R222). -/
theorem exec_reservedFlagsClear {i : Instr} {s t : State} (h : exec i s = .next t)
    (hs : s.err &&& ~~~triggeredFlags = 0#16) : t.err &&& ~~~triggeredFlags = 0#16 := by
  obtain e | ⟨_, _, -, rfl⟩ | ⟨-, rfl⟩ := exec_effect h
  · obtain ⟨flags, hflags, herr⟩ := e.err
    rw [herr, BitVec.and_comm, BitVec.and_or_distrib_left, BitVec.and_comm, hs, BitVec.and_comm, hflags, BitVec.or_zero]
  · exact hs
  · rw [deliver_err, clearErr_err, BitVec.zero_and]

theorem State.Inv.dropRequest {s : State} (hs : s.Inv) : (dropRequest s).Inv where
  reservedFlagsClear := hs.reservedFlagsClear
  readingsTogether := hs.readingsTogether
  drawsTaken := hs.drawsTaken

/-- Reset/construct gives a legal state from any state: it takes two draws, one for each reading (R250, log 10). -/
theorem construct_inv (a : BusAddr) (s : State) : (construct a s).Inv where
  reservedFlagsClear := by rw [construct_err, BitVec.zero_and]
  readingsTogether := by rw [construct_temperature, construct_humidity, isWritten_unwritten, isWritten_unwritten]
  drawsTaken k hk := by
    rw [construct_draws]
    obtain hk | hk := hk
    · cases hk; omega
    · cases hk; omega

/-- Every instruction keeps the state legal: it leaves both readings, or writes both (R179). -/
theorem exec_inv {i : Instr} {s t : State} (hs : s.Inv) (h : exec i s = .next t) : t.Inv := by
  have herr := exec_reservedFlagsClear h hs.reservedFlagsClear
  obtain ⟨ht, hh⟩ | ⟨x, y, -, ht, hh, -⟩ := onlySuccessfulReadsWriteTheReadings i s t h
  · exact ⟨herr, by rw [ht, hh, hs.readingsTogether], fun k hk => by
      rw [exec_draws h]
      exact hs.drawsTaken k (by rwa [ht, hh] at hk)⟩
  · exact ⟨herr, by rw [ht, hh, isWritten_written, isWritten_written], fun k hk => by simp [ht, hh] at hk⟩

/-- Settles O37: the reset input makes a legal state, an instruction keeps it legal, the idle step changes nothing. -/
theorem stepKeepsTheStateLegal : Obligations.StepKeepsTheStateLegal := by
  intro s t hs h
  obtain ⟨a, -, rfl⟩ | ⟨-, _, _, i, -, -, hexec⟩ | ⟨-, -, rfl⟩ := step_cases h
  · exact construct_inv a s
  · exact exec_inv hs.dropRequest hexec
  · exact hs

end Sys2Proof.Machine
end

section
/-! Each operand decoder accepts just what the encoder writes (30_encoding.md R80, R83, R90 to R92): one equivalence for each
operand form. Decoding an encoding and encoding a decoded request are its two directions. -/
namespace Sys2Proof.Machine

/-! ### Operand bytes -/

/-- A `cfg` byte leaves bits 7:2 clear exactly when it is below 4 (R91). -/
theorem cfgReserved_eq_zero_iff (cfg : Byte) : cfgReserved cfg = 0#8 ↔ cfg.toNat < 4 := by
  rw [← BitVec.toNat_inj, cfgReserved, BitVec.toNat_ushiftRight, Nat.shiftRight_eq_div_pow, BitVec.toNat_ofNat]
  omega

theorem exists_cfgByte {cfg : Byte} (h : cfg.toNat < 4) : ∃ useCrc celsius, cfg = cfgByte useCrc celsius := by
  have hcfg : cfg = 0#8 ∨ cfg = 1#8 ∨ cfg = 2#8 ∨ cfg = 3#8 := by bv_omega
  obtain rfl | rfl | rfl | rfl := hcfg
  · exact ⟨false, false, rfl⟩
  · exact ⟨true, false, rfl⟩
  · exact ⟨false, true, rfl⟩
  · exact ⟨true, true, rfl⟩

theorem decodeCfg_cfgByte (useCrc celsius : Bool) :
    decodeCfg (cfgByte useCrc celsius) = .ok (.setDefaults useCrc celsius) := by
  cases useCrc <;> cases celsius <;> rfl

/-- The `cfg` bytes accepted are the four that `cfgByte` makes (R91, R92). -/
theorem decodeCfg_eq_ok_iff {cfg : Byte} {i : Instr} :
    decodeCfg cfg = .ok i ↔ ∃ useCrc celsius, cfg = cfgByte useCrc celsius ∧ i = .setDefaults useCrc celsius := by
  constructor
  · intro h
    have hcfg : cfgReserved cfg = 0#8 := by
      by_contra hne
      simp [decodeCfg, hne] at h
    obtain ⟨useCrc, celsius, rfl⟩ := exists_cfgByte ((cfgReserved_eq_zero_iff cfg).1 hcfg)
    rw [decodeCfg_cfgByte] at h
    cases h
    exact ⟨useCrc, celsius, rfl, rfl⟩
  · rintro ⟨useCrc, celsius, rfl, rfl⟩
    exact decodeCfg_cfgByte useCrc celsius

theorem boolOperand_boolByte (v : Bool) : boolOperand (boolByte v) = some v := by
  cases v <;> rfl

theorem boolOperand_eq_some_iff {b : Byte} {v : Bool} : boolOperand b = some v ↔ b = boolByte v := by
  constructor
  · intro h
    unfold boolOperand at h
    split at h
    · next hb => cases h; exact BitVec.eq_of_toNat_eq hb
    · next hb => cases h; exact BitVec.eq_of_toNat_eq hb
    · cases h
  · rintro rfl
    exact boolOperand_boolByte v

/-- A byte above 1 is no Boolean (R92). -/
theorem boolOperand_eq_none {b : Byte} (hb : 2 ≤ b.toNat) : boolOperand b = none := by
  unfold boolOperand
  split
  · omega
  · omega
  · rfl

theorem unitByte_unitOfBool (b : Bool) : unitByte (unitOfBool b) = boolByte b := by
  cases b <;> rfl

theorem decodeCount_eq_ok_iff {n : Byte} {i : Instr} :
    decodeCount n = .ok i ↔ ∃ k ≤ Config.rxBufLen, n = BitVec.ofNat 8 k ∧ i = .readBytes k := by
  constructor
  · intro h
    unfold decodeCount at h
    split at h
    · next hn => cases h; exact ⟨n.toNat, hn, by simp, rfl⟩
    · cases h
  · rintro ⟨k, hk, rfl, rfl⟩
    have hmod : k % 256 = k := Nat.mod_eq_of_lt (hk.trans_lt (by decide))
    simp [decodeCount, hmod, hk]

/-! ### Operand lists -/

theorem operands0_eq_ok_iff (op : Byte) {j i : Instr} {args : List Byte} :
    operands0 op j args = .ok i ↔ args = [] ∧ i = j := by
  cases args with
  | nil => simp [operands0, eq_comm]
  | cons => simp [operands0]

theorem operands1_eq_ok_iff (op : Byte) {f : Byte → Except RequestError Instr} {args : List Byte} {i : Instr} :
    operands1 op f args = .ok i ↔ ∃ a, args = [a] ∧ f a = .ok i := by
  match args with
  | [] | [_] | _ :: _ :: _ => simp [operands1]

/-- Two operand bytes are those of exactly one word, high byte first (R80). -/
theorem operandsCmd_eq_ok_iff (op : Byte) {f : Word → Instr} {args : List Byte} {i : Instr} :
    operandsCmd op f args = .ok i ↔ ∃ cmd, args = [hiByte cmd, loByte cmd] ∧ i = f cmd := by
  constructor
  · intro h
    unfold operandsCmd at h
    split at h
    · next hi lo => cases h; exact ⟨joinWord hi lo, by rw [hiByte_joinWord, loByte_joinWord], rfl⟩
    · cases h
  · rintro ⟨cmd, rfl, rfl⟩
    simp only [operandsCmd, joinWord_hi_lo]

theorem operandsGroup_eq_ok_iff (op : Byte) {f : Byte → Byte → Byte → Instr} {args : List Byte} {i : Instr} :
    operandsGroup op f args = .ok i ↔ ∃ a b c, args = [a, b, c] ∧ i = f a b c := by
  constructor
  · intro h
    unfold operandsGroup at h
    split at h
    · cases h; exact ⟨_, _, _, rfl, rfl⟩
    · cases h
  · rintro ⟨a, b, c, rfl, rfl⟩
    rfl

/-- The count byte and the data length fix each other for lists a request can carry (R90). -/
theorem decodeChecksum_eq_ok_iff (op : Byte) {args : List Byte} {i : Instr} :
    decodeChecksum op args = .ok i ↔
      ∃ data, data.length ≤ 255 ∧ args = BitVec.ofNat 8 data.length :: data ∧ i = .checksum data := by
  constructor
  · intro h
    unfold decodeChecksum at h
    split at h
    · next n data =>
      split at h
      · next hlen => cases h; exact ⟨data, by omega, by simp [hlen], rfl⟩
      · cases h
    · cases h
  · rintro ⟨data, hlen, rfl, rfl⟩
    have hmod : data.length % 256 = data.length := by omega
    simp [decodeChecksum, hmod]

theorem decodeMeasOperands_eq_ok_iff (op : Byte) {args : List Byte} {i : Instr} :
    decodeMeasOperands op args = .ok i ↔
      ∃ check f0 f1 f2 f3 f4 f5, args = [boolByte check, f0, f1, f2, f3, f4, f5] ∧
        i = .decodeMeas check f0 f1 f2 f3 f4 f5 := by
  constructor
  · intro h
    unfold decodeMeasOperands at h
    split at h
    · split at h
      · next check hcheck =>
        cases h
        obtain rfl := boolOperand_eq_some_iff.1 hcheck
        exact ⟨_, _, _, _, _, _, _, rfl, rfl⟩
      · cases h
    · cases h
  · rintro ⟨check, f0, f1, f2, f3, f4, f5, rfl, rfl⟩
    simp only [decodeMeasOperands, boolOperand_boolByte]

theorem decodeConvertOperands_eq_ok_iff (op : Byte) {args : List Byte} {i : Instr} :
    decodeConvertOperands op args = .ok i ↔
      ∃ unit t h, args = [unitByte unit, hiByte t, loByte t, hiByte h, loByte h] ∧ i = .convert unit t h := by
  constructor
  · intro h
    unfold decodeConvertOperands at h
    split at h
    · next u t1 t0 h1 h0 =>
      split at h
      · next b hb =>
        cases h
        obtain rfl := boolOperand_eq_some_iff.1 hb
        exact ⟨unitOfBool b, joinWord t1 t0, joinWord h1 h0, by simp [unitByte_unitOfBool], rfl⟩
      · cases h
    · cases h
  · rintro ⟨unit, t, h, rfl, rfl⟩
    cases unit with
    | celsius => simp [decodeConvertOperands, unitByte, boolOperand, unitOfBool]
    | fahrenheit => simp [decodeConvertOperands, unitByte, boolOperand, unitOfBool]

/-! ### Requests -/

/-- A `CMD16` request is decoded by its word (R80). -/
theorem decode_opcodeRequest (cmd : Word) : decode (opcodeRequest cmd) = decodeOpcode cmd := by
  simp only [decode, opcodeRequest, joinWord_hi_lo]

/-- Two bytes are the `CMD16` request of the word they make. -/
theorem opcodeRequest_joinWord (hi lo : Byte) : opcodeRequest (joinWord hi lo) = ⟨.cmd16, [hi, lo]⟩ := by
  rw [opcodeRequest, hiByte_joinWord, loByte_joinWord]

/-- The ten wire opcodes (R83): each is the word its instruction is sent as. -/
theorem encode_of_decodeOpcode {cmd : Word} {i : Instr} (h : decodeOpcode cmd = .ok i) :
    encode i = opcodeRequest cmd ∧ i.WellFormed = true := by
  unfold decodeOpcode at h
  split at h <;> cases h
  all_goals next hcmd => exact ⟨congrArg opcodeRequest (BitVec.eq_of_toNat_eq hcmd.symm), rfl⟩

theorem eq_ofNat_of_toNat_eq {op : Byte} {n : Nat} (h : op.toNat = n) : op = BitVec.ofNat 8 n := by
  rw [← h, BitVec.ofNat_toNat, BitVec.setWidth_eq]

/-- The host operations (R90), one case for each form of operands. -/
theorem encode_of_decodeHostOp {op : Byte} {args : List Byte} {i : Instr} (h : decodeHostOp op args = .ok i) :
    encode i = hostRequest op args ∧ i.WellFormed = true := by
  unfold decodeHostOp at h
  split at h
  case h_1 hop | h_2 hop | h_6 hop | h_7 hop | h_8 hop =>
    obtain rfl := eq_ofNat_of_toNat_eq hop
    obtain ⟨rfl, rfl⟩ := (operands0_eq_ok_iff _).1 h
    exact ⟨rfl, rfl⟩
  case h_3 hop =>
    obtain rfl := eq_ofNat_of_toNat_eq hop
    obtain ⟨_, rfl, hcfg⟩ := (operands1_eq_ok_iff _).1 h
    obtain ⟨_, _, rfl, rfl⟩ := decodeCfg_eq_ok_iff.1 hcfg
    exact ⟨rfl, rfl⟩
  case h_4 hop | h_5 hop | h_9 hop | h_15 hop =>
    obtain rfl := eq_ofNat_of_toNat_eq hop
    obtain ⟨_, rfl, rfl⟩ := (operandsCmd_eq_ok_iff _).1 h
    exact ⟨rfl, rfl⟩
  case h_10 hop =>
    obtain rfl := eq_ofNat_of_toNat_eq hop
    obtain ⟨_, hlen, rfl, rfl⟩ := (decodeChecksum_eq_ok_iff _).1 h
    exact ⟨rfl, decide_eq_true hlen⟩
  case h_11 hop | h_12 hop =>
    obtain rfl := eq_ofNat_of_toNat_eq hop
    obtain ⟨_, _, _, rfl, rfl⟩ := (operandsGroup_eq_ok_iff _).1 h
    exact ⟨rfl, rfl⟩
  case h_13 hop =>
    obtain rfl := eq_ofNat_of_toNat_eq hop
    obtain ⟨_, _, _, _, _, _, _, rfl, rfl⟩ := (decodeMeasOperands_eq_ok_iff _).1 h
    exact ⟨rfl, rfl⟩
  case h_14 hop =>
    obtain rfl := eq_ofNat_of_toNat_eq hop
    obtain ⟨_, _, _, rfl, rfl⟩ := (decodeConvertOperands_eq_ok_iff _).1 h
    exact ⟨rfl, rfl⟩
  case h_16 hop =>
    obtain rfl := eq_ofNat_of_toNat_eq hop
    obtain ⟨_, rfl, hcount⟩ := (operands1_eq_ok_iff _).1 h
    obtain ⟨_, hn, rfl, rfl⟩ := decodeCount_eq_ok_iff.1 hcount
    exact ⟨rfl, decide_eq_true hn⟩
  case h_17 => cases h

/-- Settles O1: by the form of the instruction's operands. The CMD16 request and the exact length are the model's (log 2, log 3). -/
theorem decodeOfEncodeIsTheInstruction : Obligations.DecodeOfEncodeIsTheInstruction := by
  intro i hi
  cases i with
  | cmdSoftReset | cmdGeneralCallReset | cmdSsHigh | cmdSsMedium | cmdSsLow | cmdSsStretch0 | cmdSsStretch1
  | cmdSsStretch2 | cmdStatusRead | cmdStatusClear => exact decode_opcodeRequest _
  | isConnected => exact (operands0_eq_ok_iff 0x00#8).2 ⟨rfl, rfl⟩
  | begin => exact (operands0_eq_ok_iff 0x01#8).2 ⟨rfl, rfl⟩
  | setDefaults useCrc celsius => exact (operands1_eq_ok_iff 0x02#8).2 ⟨_, rfl, decodeCfg_cfgByte useCrc celsius⟩
  | reset cmd => exact (operandsCmd_eq_ok_iff 0x03#8).2 ⟨cmd, rfl, rfl⟩
  | singleShotRead cmd => exact (operandsCmd_eq_ok_iff 0x04#8).2 ⟨cmd, rfl, rfl⟩
  | readStatus => exact (operands0_eq_ok_iff 0x05#8).2 ⟨rfl, rfl⟩
  | clearStatus => exact (operands0_eq_ok_iff 0x06#8).2 ⟨rfl, rfl⟩
  | getLastError => exact (operands0_eq_ok_iff 0x07#8).2 ⟨rfl, rfl⟩
  | encode cmd => exact (operandsCmd_eq_ok_iff 0x10#8).2 ⟨cmd, rfl, rfl⟩
  | checksum data => exact (decodeChecksum_eq_ok_iff 0x11#8).2 ⟨data, of_decide_eq_true hi, rfl, rfl⟩
  | verifyGroup g0 g1 g2 => exact (operandsGroup_eq_ok_iff 0x12#8).2 ⟨g0, g1, g2, rfl, rfl⟩
  | decodeStatus f0 f1 f2 => exact (operandsGroup_eq_ok_iff 0x13#8).2 ⟨f0, f1, f2, rfl, rfl⟩
  | decodeMeas check f0 f1 f2 f3 f4 f5 =>
    exact (decodeMeasOperands_eq_ok_iff 0x14#8).2 ⟨check, f0, f1, f2, f3, f4, f5, rfl, rfl⟩
  | convert unit t h => exact (decodeConvertOperands_eq_ok_iff 0x15#8).2 ⟨unit, t, h, rfl, rfl⟩
  | writeCommand cmd => exact (operandsCmd_eq_ok_iff 0x20#8).2 ⟨cmd, rfl, rfl⟩
  | readBytes n =>
    exact (operands1_eq_ok_iff 0x21#8).2 ⟨_, rfl, decodeCount_eq_ok_iff.2 ⟨n, of_decide_eq_true hi, rfl, rfl⟩⟩

/-- Settles O2: format by format; two bytes of a `CMD16` request are the word they make (log 2, log 3). -/
theorem acceptedRequestIsItsEncoding : Obligations.AcceptedRequestIsItsEncoding := by
  rintro ⟨format, bytes⟩ i h
  cases format with
  | hostop =>
    cases bytes with
    | nil => cases h
    | cons op args => exact encode_of_decodeHostOp h
  | cmd16 =>
    simp only [decode] at h
    split at h
    · next hi lo => rw [← opcodeRequest_joinWord hi lo]; exact encode_of_decodeOpcode h
    · cases h

/-- Settles O4: each request written out is the encoding of its instruction, and decoding gives that back (O1; log 2). -/
theorem specRequestsDecode : Obligations.SpecRequestsDecode :=
  ⟨decodeOfEncodeIsTheInstruction .cmdSoftReset rfl, decodeOfEncodeIsTheInstruction .cmdStatusRead rfl,
    decodeOfEncodeIsTheInstruction (.setDefaults true true) rfl,
    decodeOfEncodeIsTheInstruction (.singleShotRead 0x2416#16) rfl,
    decodeOfEncodeIsTheInstruction (.checksum [0xBE#8, 0xEF#8]) rfl,
    decodeOfEncodeIsTheInstruction (.convert .celsius 0x6667#16 0x8001#16) rfl,
    decodeOfEncodeIsTheInstruction (.readBytes 6) rfl⟩

end Sys2Proof.Machine
end

section
/-! The requests the block refuses (30_encoding.md R92), by the decoder and by the step that meets them. -/
namespace Sys2Proof.Machine

theorem decodeHostOp_unknownSelector {op : Byte}
    (hop : op.toNat ∉ [0x00, 0x01, 0x02, 0x03, 0x04, 0x05, 0x06, 0x07, 0x10, 0x11, 0x12, 0x13, 0x14, 0x15, 0x20, 0x21])
    (args : List Byte) : decodeHostOp op args = .error (.unknownSelector op) := by
  unfold decodeHostOp
  split
  case h_17 => rfl
  all_goals next h => simp [h] at hop

theorem decodeCfg_reserved {cfg : Byte} (h : 4 ≤ cfg.toNat) : decodeCfg cfg = .error (.reservedCfgBits cfg) :=
  if_neg fun hcfg => by have := (cfgReserved_eq_zero_iff cfg).1 hcfg; omega

theorem decodeMeasOperands_badCheck {c : Byte} (h : 2 ≤ c.toNat) (op f0 f1 f2 f3 f4 f5 : Byte) :
    decodeMeasOperands op [c, f0, f1, f2, f3, f4, f5] = .error (.badCheck c) := by
  simp only [decodeMeasOperands, boolOperand_eq_none h]

theorem decodeConvertOperands_badUnit {u : Byte} (h : 2 ≤ u.toNat) (op t1 t0 h1 h0 : Byte) :
    decodeConvertOperands op [u, t1, t0, h1, h0] = .error (.badUnit u) := by
  simp only [decodeConvertOperands, boolOperand_eq_none h]

theorem decodeCount_readTooLong {n : Byte} (h : 7 ≤ n.toNat) : decodeCount n = .error (.readTooLong n.toNat) :=
  if_neg (Nat.not_le.2 h)

/-- A step that meets a request the decoder refuses stops with that refusal. -/
theorem step_of_decode_error {s : State} {r : Request} {e : RequestError} (hreset : s.resetInput = none)
    (hreq : s.requests.head? = some r) (hdec : decode r = .error e) : step s = .refused (.malformed e) := by
  obtain ⟨rest, hrest⟩ := List.head?_eq_some_iff.1 hreq
  simp only [step, nextInput_of_requests_cons hreset hrest, hdec]

/-- Settles O3: the decoder refuses each kind, and the step passes the refusal on. -/
theorem reservedRequestsAreRefused : Obligations.ReservedRequestsAreRefused := by
  have refuses {bytes : List Byte} {e : RequestError} (hdec : decode ⟨.hostop, bytes⟩ = .error e) :
      decode ⟨.hostop, bytes⟩ = .error e ∧
      ∀ s : State, s.resetInput = none → s.requests.head? = some ⟨.hostop, bytes⟩ → step s = .refused (.malformed e) :=
    ⟨hdec, fun _ hreset hreq => step_of_decode_error hreset hreq hdec⟩
  exact ⟨fun _ args hop => refuses (decodeHostOp_unknownSelector hop args),
    fun _ hcfg => refuses (decodeCfg_reserved hcfg),
    fun _ f0 f1 f2 f3 f4 f5 hc => refuses (decodeMeasOperands_badCheck hc 0x14#8 f0 f1 f2 f3 f4 f5),
    fun _ t1 t0 h1 h0 hu => refuses (decodeConvertOperands_badUnit hu 0x15#8 t1 t0 h1 h0),
    fun _ hn => refuses (decodeCount_readTooLong hn)⟩

end Sys2Proof.Machine
end

section
/-! Which opcodes RESET and SINGLE_SHOT_READ take, and which operation a wire opcode runs (30_encoding.md R83, R86). -/
namespace Sys2Proof.Machine

/-- RESET accepts just its two opcodes (R86, R170). -/
theorem isResetOpcode_eq_false_iff (cmd : Word) :
    isResetOpcode cmd = false ↔ cmd ∉ [opSoftReset, opGeneralCallReset] := by
  simp [isResetOpcode]

/-- A rejected opcode ends the operation with WRONG_COMMAND and no traffic, however silent the transport is (R86). -/
theorem complete_wrongCommand (res : Result) (s : State) :
    complete s (deliver res (raise .wrongCommand s)) = .next { s with err := s.err ||| 0x0100#16, result := res } :=
  complete_of_no_answer rfl

theorem exec_reset_rejected {cmd : Word} (h : cmd ∉ [opSoftReset, opGeneralCallReset]) (s : State) :
    exec (.reset cmd) s = .next { s with err := s.err ||| 0x0100#16, result := .bool false } := by
  simp only [exec, execReset, resetSensor_rejected ((isResetOpcode_eq_false_iff cmd).2 h), complete_wrongCommand]

theorem exec_singleShotRead_rejected {cmd : Word} (h : cmd ∉ [opSsHigh, opSsMedium, opSsLow]) (s : State) :
    exec (.singleShotRead cmd) s = .next { s with err := s.err ||| 0x0100#16, result := .reading none } := by
  simp only [exec, execSingleShotRead, singleShot_rejected ((ssDelay_eq_none_iff cmd).2 h), complete_wrongCommand]

/-- Where its two answers come, WRITE_COMMAND adds the transaction of `writeCommand_eq` to the trace, whatever the opcode. -/
theorem exec_writeCommand_trace (cmd : Word) {s : State} (h : s.Answers 2) :
    ∃ t, exec (.writeCommand cmd) s = .next t ∧ t.bus.trace = s.bus.trace ++
      [.beginTransmission s.addr, .write [hiByte cmd, loByte cmd] (busAnswer s.bus 0), .endTransmission (busAnswer s.bus 1)] := by
  refine ⟨_, complete_of_answers h ?_, ?_⟩
  · rw [writeCommand_eq]; rfl
  · rw [writeCommand_eq]; rfl

/-- Settles O32: the two operations reject before any traffic, the two engine operations take every opcode. -/
theorem opcodesAreGatedAboveTheEngine : Obligations.OpcodesAreGatedAboveTheEngine := by
  intro cmd s
  refine ⟨fun h => exec_reset_rejected h s, fun h => exec_singleShotRead_rejected h s, by simp, ?_, fun h => ?_⟩
  · rw [← hiByte_eq_shift, ← loByte_eq_truncate]; rfl
  · obtain ⟨t, hexec, htrace⟩ := exec_writeCommand_trace cmd h
    exact ⟨t, _, hexec, htrace, by simp [hiByte_eq_shift, loByte_eq_truncate]⟩

/-- Settles O33: a wire opcode's meaning is that of its operation on its constant; the stretching ones are rejected there. -/
theorem wireOpcodesRunTheirOperations : Obligations.WireOpcodesRunTheirOperations := by
  refine fun s => ⟨rfl, rfl, rfl, rfl, rfl, rfl, rfl, fun i hi => ?_⟩
  have rejected {cmd : Word} (h : cmd ∉ [opSsHigh, opSsMedium, opSsLow]) := exec_singleShotRead_rejected h s
  simp only [List.mem_cons, List.not_mem_nil, or_false] at hi
  obtain rfl | rfl | rfl := hi
  · exact rejected (cmd := opSsStretch0) (by decide)
  · exact rejected (cmd := opSsStretch1) (by decide)
  · exact rejected (cmd := opSsStretch2) (by decide)

end Sys2Proof.Machine
end

section
/-! One bit step, bit by bit and on numbers: it loses nothing, since the bit shifted out comes back as bit 0 of the polynomial
(40_command_checksum_engine.md R112). -/
namespace Sys2Proof.Machine

theorem crcBitStep_of_high {c : Byte} (h : c.getLsbD 7 = true) : crcBitStep c = c <<< 1 ^^^ 0x31#8 := by
  rw [crcBitStep, if_pos h]

theorem crcBitStep_of_low {c : Byte} (h : c.getLsbD 7 = false) : crcBitStep c = c <<< 1 := by
  rw [crcBitStep, h, if_neg Bool.false_ne_true]

/-- Bit 0 is the bit shifted out: the polynomial 0x31 is odd. -/
theorem crcBitStep_bit_zero (c : Byte) : (crcBitStep c).getLsbD 0 = c.getLsbD 7 := by
  cases h : c.getLsbD 7 with
  | false => simp [crcBitStep_of_low h]
  | true => simp [crcBitStep_of_high h]

/-- Every further bit is the one below it, fed back with the polynomial's. -/
theorem crcBitStep_bit_succ (c : Byte) {k : Nat} (hk : k < 7) :
    (crcBitStep c).getLsbD (k + 1) = (c.getLsbD k ^^ (c.getLsbD 7 && (0x31#8).getLsbD (k + 1))) := by
  have hk8 : k + 1 < 8 := by omega
  cases h : c.getLsbD 7 with
  | false => simp only [crcBitStep_of_low h, BitVec.getLsbD_shiftLeft]; simp [hk8]
  | true => simp only [crcBitStep_of_high h, BitVec.getLsbD_xor, BitVec.getLsbD_shiftLeft]; simp [hk8]

theorem crcBitStep_injective : Function.Injective crcBitStep := by
  intro x y h
  have bits (k : Nat) : (crcBitStep x).getLsbD k = (crcBitStep y).getLsbD k := by rw [h]
  have top : x.getLsbD 7 = y.getLsbD 7 := by simpa only [crcBitStep_bit_zero] using bits 0
  refine BitVec.eq_of_getLsbD_eq fun k hk => ?_
  obtain hk7 | rfl : k < 7 ∨ k = 7 := by omega
  · simpa only [crcBitStep_bit_succ _ hk7, top, Bool.xor_left_inj] using bits (k + 1)
  · exact top

/-- Settles O10: bit 7 of a byte says whether it is at least 128. -/
theorem bitStepShiftsAndFeedsBack : Obligations.BitStepShiftsAndFeedsBack := by
  intro c
  have top : c.getLsbD 7 = decide (128 ≤ c.toNat) := BitVec.msb_eq_decide c
  have shifted : (c <<< 1).toNat = 2 * c.toNat % 256 := by
    rw [BitVec.toNat_shiftLeft, Nat.shiftLeft_eq, Nat.mul_comm]
  by_cases h : 128 ≤ c.toNat
  · rw [crcBitStep_of_high (by simpa only [top, decide_eq_true_eq] using h), BitVec.toNat_xor, shifted, if_pos h]
    rfl
  · rw [crcBitStep_of_low (by simpa only [top, decide_eq_false_iff_not] using h), shifted, if_neg h]
    omega

end Sys2Proof.Machine
end

section
/-! The byte step in its parallel and its bit-serial form (40_command_checksum_engine.md R114, R115). -/
namespace Sys2Proof.Machine
open Sys2Proof.Spec

/-- The wiring of one bit step: a shift that feeds bit 7 back into bits 0, 4 and 5, the ones of the polynomial. -/
theorem crcBitStep_bits (c : Byte) :
    (crcBitStep c).getLsbD 7 = c.getLsbD 6 ∧ (crcBitStep c).getLsbD 6 = c.getLsbD 5 ∧
    (crcBitStep c).getLsbD 5 = (c.getLsbD 4 ^^ c.getLsbD 7) ∧ (crcBitStep c).getLsbD 4 = (c.getLsbD 3 ^^ c.getLsbD 7) ∧
    (crcBitStep c).getLsbD 3 = c.getLsbD 2 ∧ (crcBitStep c).getLsbD 2 = c.getLsbD 1 ∧
    (crcBitStep c).getLsbD 1 = c.getLsbD 0 ∧ (crcBitStep c).getLsbD 0 = c.getLsbD 7 := by
  have shifts {k : Nat} (hk : k < 7) (hp : (0x31#8).getLsbD (k + 1) = false) :
      (crcBitStep c).getLsbD (k + 1) = c.getLsbD k := by
    rw [crcBitStep_bit_succ c hk, hp, Bool.and_false, Bool.xor_false]
  have feeds {k : Nat} (hk : k < 7) (hp : (0x31#8).getLsbD (k + 1) = true) :
      (crcBitStep c).getLsbD (k + 1) = (c.getLsbD k ^^ c.getLsbD 7) := by
    rw [crcBitStep_bit_succ c hk, hp, Bool.and_true]
  exact ⟨shifts (by decide) rfl, shifts (by decide) rfl, feeds (by decide) rfl, feeds (by decide) rfl, shifts (by decide) rfl,
    shifts (by decide) rfl, shifts (by decide) rfl, crcBitStep_bit_zero c⟩

/-- The equations of R115 (b). -/
theorem crcParallel_bits (x : Byte) :
    (crcParallel x).getLsbD 7 = (x.getLsbD 5 ^^ x.getLsbD 3 ^^ x.getLsbD 2) ∧
    (crcParallel x).getLsbD 6 = (x.getLsbD 7 ^^ x.getLsbD 4 ^^ x.getLsbD 2 ^^ x.getLsbD 1) ∧
    (crcParallel x).getLsbD 5 = (x.getLsbD 7 ^^ x.getLsbD 6 ^^ x.getLsbD 3 ^^ x.getLsbD 1 ^^ x.getLsbD 0) ∧
    (crcParallel x).getLsbD 4 = (x.getLsbD 7 ^^ x.getLsbD 6 ^^ x.getLsbD 3 ^^ x.getLsbD 0) ∧
    (crcParallel x).getLsbD 3 = (x.getLsbD 7 ^^ x.getLsbD 6 ^^ x.getLsbD 3) ∧
    (crcParallel x).getLsbD 2 = (x.getLsbD 6 ^^ x.getLsbD 5 ^^ x.getLsbD 2) ∧
    (crcParallel x).getLsbD 1 = (x.getLsbD 7 ^^ x.getLsbD 5 ^^ x.getLsbD 4 ^^ x.getLsbD 1) ∧
    (crcParallel x).getLsbD 0 = (x.getLsbD 6 ^^ x.getLsbD 4 ^^ x.getLsbD 3 ^^ x.getLsbD 0) := by
  simp only [crcParallel, BitVec.getLsbD_append]
  simp -zeta [-BitVec.getLsbD_eq_getElem]

/-- Eight bit steps are the parallel form: their wiring composed, and the terms that meet twice cancelled, gives each equation
of R115 (b). -/
theorem crcBitSteps_eight (x : Byte) : crcBitSteps 8 x = crcParallel x := by
  refine BitVec.eq_of_getLsbD_eq fun k hk => ?_
  interval_cases k <;> simp only [crcBitSteps, crcBitStep_bits, crcParallel_bits] <;> grind

/-- One step of the bit-serial form: the message bit `k` meets the bit shifted out (R115 (c)). -/
def serialStep (d acc : Byte) (k : Nat) : Byte :=
  if acc.getLsbD 7 ^^ d.getLsbD k then (acc <<< 1) ^^^ 0x31#8 else acc <<< 1

theorem crcSerial_eq_foldl (c d : Byte) : crcSerial c d = (List.range 8).reverse.foldl (serialStep d) c := rfl

/-- The key step: a bit step on the running value with the rest of the message byte added at its top is a serial step with the
message bit at the top, the rest one place further up. -/
theorem crcBitStep_xor_shiftLeft (acc d : Byte) {k : Nat} (hk : k < 8) :
    crcBitStep (acc ^^^ d <<< (7 - k)) = serialStep d acc k ^^^ d <<< (8 - k) := by
  have top : (acc ^^^ d <<< (7 - k)).getLsbD 7 = (acc.getLsbD 7 ^^ d.getLsbD k) := by
    have hbit : 7 - (7 - k) = k := by omega
    simp only [BitVec.getLsbD_xor, BitVec.getLsbD_shiftLeft, hbit]
    simp
  have shifted : (acc ^^^ d <<< (7 - k)) <<< 1 = acc <<< 1 ^^^ d <<< (8 - k) := by
    rw [BitVec.shiftLeft_xor_distrib, ← BitVec.shiftLeft_add, show 7 - k + 1 = 8 - k by omega]
  rw [crcBitStep, serialStep, top, shifted]
  split
  · ac_rfl
  · rfl

/-- Serial steps through the low `n` message bits are `n` bit steps on the running value with those bits added at its top. -/
theorem foldl_serialStep (d : Byte) {n : Nat} (hn : n ≤ 8) (acc : Byte) :
    (List.range n).reverse.foldl (serialStep d) acc = crcBitSteps n (acc ^^^ d <<< (8 - n)) := by
  induction n generalizing acc with
  | zero => simp [crcBitSteps]
  | succ n ih =>
    calc (List.range (n + 1)).reverse.foldl (serialStep d) acc
      _ = (List.range n).reverse.foldl (serialStep d) (serialStep d acc n) := by simp [List.range_succ]
      _ = crcBitSteps n (serialStep d acc n ^^^ d <<< (8 - n)) := ih (by omega) _
      _ = crcBitSteps n (crcBitStep (acc ^^^ d <<< (7 - n))) := by rw [crcBitStep_xor_shiftLeft acc d hn]
      _ = crcBitSteps (n + 1) (acc ^^^ d <<< (8 - (n + 1))) := by rw [show 8 - (n + 1) = 7 - n by omega]; rfl

/-- Settles O11: the parallel form by the bits of eight steps, the serial form by the invariant of its fold. -/
theorem byteStepAgreesWithParallelAndSerialForms : Obligations.ByteStepAgreesWithParallelAndSerialForms := by
  refine fun c d => ⟨crcBitSteps_eight (c ^^^ d), ?_⟩
  rw [crcSerial_eq_foldl, foldl_serialStep d le_rfl, Nat.sub_self, BitVec.shiftLeft_zero, crcByteStep]

end Sys2Proof.Machine
end

section
/-! What the checksum detects: the byte step is injective in the running value and in the data byte, and two equal bytes cancel
(40_command_checksum_engine.md R116, R117). -/
namespace Sys2Proof.Machine

theorem crcBitSteps_injective (n : Nat) : Function.Injective (crcBitSteps n) := by
  induction n with
  | zero => exact Function.injective_id
  | succ n ih => exact ih.comp crcBitStep_injective

theorem crcBitSteps_zero (n : Nat) : crcBitSteps n 0#8 = 0#8 := by
  induction n with
  | zero => rfl
  | succ n ih => exact ih

theorem crcByteStep_left_inj (c c' d : Byte) : crcByteStep c d = crcByteStep c' d ↔ c = c' := by
  rw [crcByteStep, crcByteStep, (crcBitSteps_injective 8).eq_iff, BitVec.xor_left_inj]

theorem crcByteStep_right_inj (c d d' : Byte) : crcByteStep c d = crcByteStep c d' ↔ d = d' := by
  rw [crcByteStep, crcByteStep, (crcBitSteps_injective 8).eq_iff, BitVec.xor_right_inj]

theorem crcByteStep_self (c : Byte) : crcByteStep c c = 0#8 := by
  rw [crcByteStep, BitVec.xor_self, crcBitSteps_zero]

theorem crcByteStep_eq_zero_iff (c d : Byte) : crcByteStep c d = 0#8 ↔ c = d := by
  rw [← crcByteStep_self c, crcByteStep_right_inj, eq_comm]

theorem foldl_crcByteStep_injective (data : List Byte) : Function.Injective (data.foldl crcByteStep) := by
  induction data with
  | nil => exact Function.injective_id
  | cons d data ih => exact fun c c' h => (crcByteStep_left_inj c c' d).1 (ih h)

theorem checksum_append_cons (before after : List Byte) (d : Byte) :
    checksum (before ++ d :: after) = after.foldl crcByteStep (crcByteStep (checksum before) d) := by
  simp [checksum]

/-- A changed byte changes the checksum, whatever follows it. -/
theorem checksum_append_cons_inj (before after : List Byte) (d d' : Byte) :
    checksum (before ++ d :: after) = checksum (before ++ d' :: after) ↔ d = d' := by
  rw [checksum_append_cons, checksum_append_cons, (foldl_crcByteStep_injective after).eq_iff, crcByteStep_right_inj]

theorem checksum_concat_eq_zero_iff (data : List Byte) (d : Byte) : checksum (data ++ [d]) = 0#8 ↔ checksum data = d := by
  rw [checksum_concat, crcByteStep_eq_zero_iff]

/-- Settles O14: a byte with one bit flipped is another byte. -/
theorem checksumSeesEverySingleBitFlip : Obligations.ChecksumSeesEverySingleBitFlip := by
  intro before after d k hk h
  have same : d ^^^ (1#8 <<< k) = d := (checksum_append_cons_inj before after _ _).1 h
  have bit : (d ^^^ (1#8 <<< k)).getLsbD k = !d.getLsbD k := by simp [hk]
  simp [same] at bit

end Sys2Proof.Machine
end

section
/-! The engine operations on the state: what each delivers, and that CRCR is all else they write
(40_command_checksum_engine.md R110, R116, R120 to R125). -/
namespace Sys2Proof.Machine
open Sys2Proof.Spec

/-- Settles O9: the two byte extractions are the shift and the truncation. -/
theorem encodeSplitsTheOpcode : Obligations.EncodeSplitsTheOpcode := by
  intro cmd s
  rw [← hiByte_eq_shift, ← loByte_eq_truncate]
  rfl

/-- Settles O12: the evaluation is the fold of `checksum`, from `crcInit`. -/
theorem checksumRequestFoldsTheBytes : Obligations.ChecksumRequestFoldsTheBytes := fun _ _ => rfl

theorem exec_verifyGroup (g0 g1 g2 : Byte) (s : State) :
    exec (.verifyGroup g0 g1 g2) s =
      .next { s with crcr := checksum [g0, g1], result := .bool (checksum [g0, g1] == g2) } := rfl

/-- Settles O15: the comparison of the two bytes is their decided equality. -/
theorem verifyGroupComparesTheChecksum : Obligations.VerifyGroupComparesTheChecksum := by
  intro g0 g1 g2 s
  rw [exec_verifyGroup, Bool.beq_eq_decide_eq]

/-- Settles O13: the last byte cancels the running value just when it equals it. -/
theorem checksumOfChecksummedIsZero : Obligations.ChecksumOfChecksummedIsZero := by
  refine ⟨fun data => (checksum_concat_eq_zero_iff data _).2 rfl, fun g0 g1 g2 s => ⟨_, exec_verifyGroup g0 g1 g2 s, ?_⟩⟩
  have residue : checksum [g0, g1, g2] = 0#8 ↔ checksum [g0, g1] = g2 := checksum_concat_eq_zero_iff [g0, g1] g2
  simp only [Bool.beq_eq_decide_eq, residue]

/-- Settles O16: USE_CRC does not stand in `decodeStatusFrame_eq`. -/
theorem decodeStatusVerifiesAlways : Obligations.DecodeStatusVerifiesAlways := by
  intro f0 f1 f2 s
  refine ⟨checksum [f0, f1], ?_⟩
  simp only [exec, execDecodeStatus, decodeStatusFrame_eq]
  rfl

/-- Settles O17: CRCR is left with the checksum of the humidity group, the one verified last. -/
theorem decodeMeasNeedsBothGroups : Obligations.DecodeMeasNeedsBothGroups := by
  intro f0 f1 f2 f3 f4 f5 s
  refine ⟨⟨checksum [f3, f4], ?_⟩, ?_⟩
  · simp only [exec, execDecodeMeas, decodeMeasFrame_checked]
    rfl
  · simp only [exec, execDecodeMeas, decodeMeasFrame_unchecked]
    rfl

end Sys2Proof.Machine
end

section
/-! WRITE_COMMAND and READ_BYTES where their answers come, in the terms of the spec's tables (41_transport_ops.md R145 to R148). -/
namespace Sys2Proof.Machine
open Sys2Proof.Spec

/-! ### WRITE_COMMAND -/

theorem writeRaised_eq_writeFlags (k st : Nat) : writeRaised k st = writeFlags k st := by
  rw [writeRaised, writeFlags, ite_not]
  rfl

/-- The pseudocode's result is the table of R146. -/
theorem writeOk_eq_writeResult (p : Params) (k st : Nat) : writeOk p k st = writeResult p.shortWriteFails k st := by
  by_cases hk : 2 ≤ k
  · simp [writeOk, writeResult, hk, Nat.not_lt.2 hk]
  · by_cases hst : st = 0
    · simp [writeOk, writeResult, hk, hst, Nat.not_le.1 hk]
    · simp [writeOk, writeResult, hk, hst]

/-- Everything `WRITE_COMMAND` does, by the spec's own formulas. -/
theorem writeCommand_spec (cmd : Word) (s : State) :
    writeCommand cmd s =
      (writeResult s.params.shortWriteFails (busAnswer s.bus 0) (busAnswer s.bus 1),
       { s with
         cb := frameBuffer cmd
         err := s.err ||| writeFlags (busAnswer s.bus 0) (busAnswer s.bus 1)
         bus := s.bus.after 2 (writeEvents s.addr cmd (busAnswer s.bus 0) (busAnswer s.bus 1)) }) := by
  rw [writeCommand_eq, writeOk_eq_writeResult, writeRaised_eq_writeFlags, hiByte_eq_shift, loByte_eq_truncate]
  rfl

/-- A run that takes at most the answers that come is delivered as it is. -/
theorem complete_deliver_of_answers {s r : State} {n : Nat} {es : List Event} (h : s.Answers n)
    (hr : r.bus = s.bus.after n es) (res : Result) : complete s (deliver res r) = .next { r with result := res } :=
  complete_of_answers h (by rw [deliver_bus, hr, after_answered])

/-- Settles O22: the two answers come, so the operation ends in the state of its run. -/
theorem writeCommandSendsTheFrame : Obligations.WriteCommandSendsTheFrame := by
  intro cmd s h
  simp only [exec, execWriteCommand, writeCommand_spec]
  exact complete_deliver_of_answers h rfl _

/-! ### READ_BYTES -/

/-- The bytes just stored in `RB` are the bytes read back. -/
theorem take_storeBytes_nextBytes (rb : Vector Byte 6) (b : Bus) (skip : Nat) {n : Nat} (hn : n ≤ 6) :
    (storeBytes rb 0 (nextBytes b skip n)).toList.take n = nextBytes b skip n := by
  simpa only [length_nextBytes] using storeBytes_take rb (nextBytes b skip n) (by rwa [length_nextBytes])

/-- Each byte of `RB` after a read of `n`: the answer of its index, or the old byte (R51, R148). -/
theorem storeBytes_nextBytes_get (rb : Vector Byte 6) (b : Bus) (skip n : Nat) (j : Fin 6) :
    (storeBytes rb 0 (nextBytes b skip n))[j] = if j.val < n then busByte b (skip + j.val) else rb[j] := by
  rw [storeBytes_get]
  by_cases hj : j.val < n
  · rw [dif_pos (by rw [length_nextBytes]; omega), if_pos hj]
    simp [nextBytes]
  · rw [dif_neg (by rw [length_nextBytes]; omega), if_neg hj]

theorem readBytes_of_count {n : Nat} (hn : n ≤ 6) {s : State} (hk : busAnswer s.bus 0 = n) :
    readBytes n s =
      (some (nextBytes s.bus 1 n),
       { s with
         rb := storeBytes s.rb 0 (nextBytes s.bus 1 n)
         bus := s.bus.after (n + 1) (.requestFrom s.addr n n :: (nextBytes s.bus 1 n).map .read) }) := by
  rw [readBytes_eq, if_pos hk]
  simp only [readRB, take_storeBytes_nextBytes s.rb s.bus 1 hn]

theorem readBytes_of_other_count {n : Nat} {s : State} (hk : busAnswer s.bus 0 ≠ n) :
    readBytes n s =
      (none, { s with
        err := s.err ||| flagMask .requestLen
        bus := s.bus.after 1 [.requestFrom s.addr n (busAnswer s.bus 0)] }) := by
  rw [readBytes_eq, if_neg hk]

theorem exec_readBytes_of_le {n : Nat} (hn : n ≤ 6) (s : State) :
    exec (.readBytes n) s = complete s (deliver (.bytes (readBytes n s).1) (readBytes n s).2) :=
  if_pos hn

/-- Settles O23: more than `P_RXBUF_LEN` bytes, another count, the count asked for. -/
theorem readBytesTakesExactlyTheCount : Obligations.ReadBytesTakesExactlyTheCount := by
  intro n s
  refine ⟨fun hn => if_neg (Nat.not_le.2 hn), fun hn hk h => ?_, fun hn hk h => ?_⟩
  · rw [exec_readBytes_of_le hn, readBytes_of_other_count hk]
    exact complete_deliver_of_answers h rfl _
  · refine ⟨storeBytes s.rb 0 (nextBytes s.bus 1 n), ?_, storeBytes_nextBytes_get s.rb s.bus 1 n⟩
    rw [exec_readBytes_of_le hn, readBytes_of_count hn hk, hk]
    exact complete_deliver_of_answers h rfl _

end Sys2Proof.Machine
end

section
/-! How many answers an instruction takes: at most nine, and at least one where it calls the transport, so that a silent
transport hangs it (41_transport_ops.md R142, R143). -/
namespace Sys2Proof.Machine

/-- Settles O49: the use of the bus, `exec_bus`, without its events. -/
theorem operationsTakeAtMostNineAnswers : Obligations.OperationsTakeAtMostNineAnswers := by
  intro i s t h
  obtain ⟨n, es, hn, hbus, -⟩ := exec_bus h
  exact ⟨n, hn, by rw [hbus, after_answered], by rw [hbus, after_script], by rw [hbus, after_silentFrom]⟩

theorem not_answers_one_iff (s : State) : ¬ s.Answers 1 ↔ ∃ m, s.bus.silentFrom = some m ∧ m ≤ s.bus.answered := by
  simp only [State.Answers, not_forall, exists_prop, Nat.not_le, Nat.lt_succ_iff]

/-- A run that takes an answer hangs where the next one never comes (R142, log 5). -/
theorem complete_of_silent {s r : State} (hs : ¬ s.Answers 1) (hr : s.bus.answered < r.bus.answered) (res : Result) :
    complete s (deliver res r) = .fault .transportHang := by
  obtain ⟨m, hm, hle⟩ := (not_answers_one_iff s).1 hs
  have hang : hangs s.bus r.bus.answered = true := (hangs_iff _ _).2 ⟨m, hm, hr, by omega⟩
  rw [complete, deliver_bus, hang]

/-! ### The runs that take an answer -/

theorem Effect.answered_le {s t : State} {most : Nat} (h : Effect s t most) : s.bus.answered ≤ t.bus.answered := by
  obtain ⟨n, es, -, hbus, -⟩ := h.bus
  rw [hbus, after_answered]
  exact Nat.le_add_right _ n

theorem writeCommand_takesAnswer (cmd : Word) (s : State) : s.bus.answered < (writeCommand cmd s).2.bus.answered := by
  rw [writeCommand_eq, after_answered]
  omega

theorem readBytes_takesAnswer (n : Nat) (s : State) : s.bus.answered < (readBytes n s).2.bus.answered := by
  rw [readBytes_eq]
  split
  · rw [after_answered]; omega
  · rw [after_answered]; omega

theorem probe_takesAnswer (s : State) : s.bus.answered < (probe s).2.bus.answered := by
  rw [probe_eq, after_answered]
  omega

/-- An accepted opcode is written at least once; what follows gives no answer back. -/
theorem resetSensor_takesAnswer {cmd : Word} (hcmd : isResetOpcode cmd = true) (s : State) :
    s.bus.answered < (resetSensor cmd s).2.bus.answered := by
  have w := writeCommand_takesAnswer cmd s
  have two := w.trans (writeCommand_takesAnswer cmd (writeCommand cmd s).2)
  rw [resetSensor, if_pos hcmd]
  simp only
  split
  · split
    · exact two
    · exact w
  · exact two
  · exact two

theorem beginSensor_takesAnswer (s : State) : s.bus.answered < (beginSensor s).2.bus.answered :=
  resetSensor_takesAnswer rfl (tSetClock Config.busHz (tBegin s))

theorem singleShot_takesAnswer {cmd : Word} (hcmd : (ssDelay cmd).isSome = true) (s : State) :
    s.bus.answered < (singleShot cmd s).2.bus.answered := by
  have w := writeCommand_takesAnswer cmd s
  unfold singleShot
  split
  · next hnone => rw [hnone] at hcmd; cases hcmd
  · next units _ =>
    have r : s.bus.answered < (readBytes 6 (delay units (writeCommand cmd s).2)).2.bus.answered :=
      w.trans (readBytes_takesAnswer 6 (delay units (writeCommand cmd s).2))
    simp only
    split
    · split
      · exact r.trans_le (finishReading_effect _).answered_le
      · exact r
    · exact w

theorem statusRead_takesAnswer (s : State) : s.bus.answered < (statusRead s).2.bus.answered := by
  have w := writeCommand_takesAnswer opStatusRead s
  have r := w.trans (readBytes_takesAnswer 3 _)
  unfold statusRead
  simp only
  split
  · split
    · exact r.trans_le (finishStatus_effect _).answered_le
    · exact r
  · exact w

/-- Settles O24: the run of each calling form takes an answer (log 5). -/
theorem silentTransportHangsTheOperation : Obligations.SilentTransportHangsTheOperation := by
  intro i s m hm hle hi
  have hs : ¬ s.Answers 1 := (not_answers_one_iff s).2 ⟨m, hm, hle⟩
  obtain ⟨cmd, rfl⟩ | ⟨n, hn, rfl⟩ | rfl | rfl | rfl | rfl | ⟨cmd, hcmd, rfl⟩ | ⟨cmd, hcmd, rfl⟩ | rfl | rfl | rfl | rfl |
    rfl | rfl | rfl := hi
  · exact complete_of_silent hs (writeCommand_takesAnswer cmd s) _
  · rw [exec_readBytes_of_le hn]
    exact complete_of_silent hs (readBytes_takesAnswer n s) _
  · exact complete_of_silent hs (probe_takesAnswer s) _
  · exact complete_of_silent hs (beginSensor_takesAnswer s) _
  · exact complete_of_silent hs (statusRead_takesAnswer s) _
  · exact complete_of_silent hs (writeCommand_takesAnswer opStatusClear s) _
  · exact complete_of_silent hs (resetSensor_takesAnswer hcmd s) _
  · exact complete_of_silent hs (singleShot_takesAnswer hcmd s) _
  · exact complete_of_silent hs (resetSensor_takesAnswer (cmd := opSoftReset) rfl s) _
  · exact complete_of_silent hs (resetSensor_takesAnswer (cmd := opGeneralCallReset) rfl s) _
  · exact complete_of_silent hs (singleShot_takesAnswer (cmd := opSsHigh) rfl s) _
  · exact complete_of_silent hs (singleShot_takesAnswer (cmd := opSsMedium) rfl s) _
  · exact complete_of_silent hs (singleShot_takesAnswer (cmd := opSsLow) rfl s) _
  · exact complete_of_silent hs (statusRead_takesAnswer s) _
  · exact complete_of_silent hs (writeCommand_takesAnswer opStatusClear s) _

end Sys2Proof.Machine
end

section
/-! SET_DEFAULTS and the operations that only write to the sensor: IS_CONNECTED, RESET, BEGIN, CLEAR_STATUS
(42_measurement_ops.md R160 to R170, R188). -/
namespace Sys2Proof.Machine
open Sys2Proof.Spec

/-- Settles O25: the operation takes no answer, so it ends in the state it writes. -/
theorem setDefaultsWritesBothRegisters : Obligations.SetDefaultsWritesBothRegisters := fun _ _ _ => rfl

/-- Settles O26: the one answer comes, so the operation ends in the state of the probe. -/
theorem isConnectedProbes : Obligations.IsConnectedProbes := by
  intro s h
  simp only [exec, execIsConnected, probe_eq]
  exact complete_deliver_of_answers h rfl _

/-- Settles O31: the operation is one command write. -/
theorem clearStatusWritesOneCommand : Obligations.ClearStatusWritesOneCommand := by
  intro s h
  simp only [exec, execClearStatus, writeCommand_spec]
  exact complete_deliver_of_answers h rfl _

/-! ### RESET -/

theorem isResetOpcode_eq_true_iff (cmd : Word) :
    isResetOpcode cmd = true ↔ cmd = opSoftReset ∨ cmd = opGeneralCallReset := by
  simp [isResetOpcode]

/-- Whether a command write whose answers begin with number `j` from now succeeds (R146). -/
def writeSucceeds (s : State) (j : Nat) : Bool :=
  writeResult s.params.shortWriteFails (busAnswer s.bus j) (busAnswer s.bus (j + 1))

theorem writeCommand_fst (cmd : Word) (s : State) : (writeCommand cmd s).1 = writeSucceeds s 0 := by
  rw [writeCommand_spec, writeSucceeds]

/-- A command written twice takes the answers 0 to 3, and the flags of both writes are raised. -/
theorem writeCommand_twice (cmd : Word) (s : State) :
    writeCommand cmd (writeCommand cmd s).2 =
      (writeSucceeds s 2,
       { s with
         cb := frameBuffer cmd
         err := s.err ||| writeFlags (busAnswer s.bus 0) (busAnswer s.bus 1)
           ||| writeFlags (busAnswer s.bus 2) (busAnswer s.bus 3)
         bus := s.bus.after 4 (writeEvents s.addr cmd (busAnswer s.bus 0) (busAnswer s.bus 1)
           ++ writeEvents s.addr cmd (busAnswer s.bus 2) (busAnswer s.bus 3)) }) := by
  rw [writeCommand_spec cmd s, writeCommand_spec]
  simp only [busAnswer_after, after_after, writeSucceeds]

/-- What RESET answers after two writes, by P_RESET_FIRST_WRITE (R170, D7). -/
def resetResult (p : FirstWrite) (first second : Bool) : Bool :=
  match p with
  | .ignore => second
  | .and => first && second
  | .abort => second

/-- With P_RESET_FIRST_WRITE abort a failed first write ends RESET. -/
theorem resetSensor_aborted {cmd : Word} (hcmd : isResetOpcode cmd = true) {s : State}
    (hp : s.params.resetFirstWrite = .abort) (hfail : writeSucceeds s 0 = false) :
    resetSensor cmd s = (false, (writeCommand cmd s).2) := by
  simp only [resetSensor, hcmd, if_true, hp, writeCommand_fst, hfail]

/-- Where the first write does not end RESET, the frame is written again. -/
theorem resetSensor_twice {cmd : Word} (hcmd : isResetOpcode cmd = true) {s : State}
    (hgoesOn : s.params.resetFirstWrite = .abort → writeSucceeds s 0 = true) :
    resetSensor cmd s =
      (resetResult s.params.resetFirstWrite (writeSucceeds s 0) (writeSucceeds s 2),
        (writeCommand cmd (writeCommand cmd s).2).2) := by
  have second : (writeCommand cmd (writeCommand cmd s).2).1 = writeSucceeds s 2 := by rw [writeCommand_twice]
  rw [resetSensor, if_pos hcmd]
  cases hp : s.params.resetFirstWrite with
  | ignore => simp only [resetResult, ← second]
  | and => simp only [resetResult, writeCommand_fst cmd s, second]
  | abort => simp only [resetResult, writeCommand_fst cmd s, hgoesOn hp, ← second]

/-- Settles O27: the opcode is rejected, or the first write ends the operation, or the frame is written twice. -/
theorem resetWritesTheFrameTwice : Obligations.ResetWritesTheFrameTwice := by
  intro cmd s
  refine ⟨fun hsoft hgeneral => exec_reset_rejected (by simp [opSoftReset, opGeneralCallReset, hsoft, hgeneral]) s,
    fun hcmd => ?_⟩
  have hcmd : isResetOpcode cmd = true := (isResetOpcode_eq_true_iff cmd).2 hcmd
  refine ⟨fun hp hfail h => ?_, fun hgoesOn h => ?_⟩
  · simp only [exec, execReset, resetSensor_aborted hcmd hp hfail, writeCommand_spec]
    exact complete_deliver_of_answers h rfl _
  · simp only [exec, execReset, resetSensor_twice hcmd hgoesOn, writeCommand_twice]
    exact complete_deliver_of_answers h rfl _

/-! ### BEGIN -/

theorem beginSensor_eq (s : State) :
    beginSensor s = resetSensor opGeneralCallReset { s with bus := s.bus.after 0 [.begin, .setClock 100000] } := by
  simp [beginSensor, tSetClock, tBegin, emit_eq]

/-- Binding the transport and setting its clock take no answer, so BEGIN hangs just where the RESET after them does. -/
theorem exec_begin_eq (s : State) :
    exec .begin s = exec (.reset 0x0006#16) { s with bus := s.bus.after 0 [.begin, .setClock 100000] } := by
  simp only [exec, execBegin, beginSensor_eq]
  rfl

/-- A command write leaves WRONG_COMMAND as it is. -/
theorem writeFlags_wrongCommand (e : BitVec 16) (k st : Nat) :
    (e ||| writeFlags k st) &&& 0x0100#16 = e &&& 0x0100#16 := by
  have unraised : writeFlags k st &&& 0x0100#16 = 0#16 := by
    unfold writeFlags
    split <;> split <;> rfl
  rw [BitVec.and_or_distrib_right, unraised, BitVec.or_zero]

/-- RESET of an accepted opcode leaves WRONG_COMMAND as it is, where the four answers come. -/
theorem exec_reset_accepted_wrongCommand {cmd : Word} (hcmd : cmd = 0x30A2#16 ∨ cmd = 0x0006#16) {s : State}
    (h : s.Answers 4) : ∃ t, exec (.reset cmd) s = .next t ∧ t.err &&& 0x0100#16 = s.err &&& 0x0100#16 := by
  obtain ⟨-, accepted⟩ := resetWritesTheFrameTwice cmd s
  obtain ⟨aborted, twice⟩ := accepted hcmd
  by_cases hgoesOn : s.params.resetFirstWrite = .abort → writeSucceeds s 0 = true
  · exact ⟨_, twice hgoesOn h, by simp only [writeFlags_wrongCommand]⟩
  · obtain ⟨hp, hfail⟩ := Classical.not_imp.1 hgoesOn
    exact ⟨_, aborted hp (Bool.eq_false_of_not_eq_true hfail) (answers_mono h (by decide)),
      by simp only [writeFlags_wrongCommand]⟩

/-- Settles O28: RESET, from the state in which the transport is bound and its clock set. -/
theorem beginIsClockThenGeneralCallReset : Obligations.BeginIsClockThenGeneralCallReset := by
  refine fun s => ⟨exec_begin_eq s, fun h => ?_⟩
  rw [exec_begin_eq]
  exact exec_reset_accepted_wrongCommand (.inr rfl) h

end Sys2Proof.Machine
end

section
/-! READ_STATUS, every outcome (42_measurement_ops.md R182, R184): what its run gives where the write fails, where another count
comes, and where a group comes. -/
namespace Sys2Proof.Machine
open Sys2Proof.Spec

theorem readBytes_three {s : State} (hn : busAnswer s.bus 0 = 3) :
    readBytes 3 s =
      (some (nextBytes s.bus 1 3),
       { s with
         rb := #v[busByte s.bus 1, busByte s.bus 2, busByte s.bus 3, s.rb[3], s.rb[4], s.rb[5]]
         bus := s.bus.after 4
          [.requestFrom s.addr 3 3, .read (busByte s.bus 1), .read (busByte s.bus 2), .read (busByte s.bus 3)] }) := by
  rw [readBytes_of_count (by decide) hn, ← storeBytes_three]
  rfl

/-- Everything the end of `READ_STATUS` does, by the validity of the group. -/
theorem finishStatus_spec (s : State) :
    finishStatus s =
      let good := groupValid s.rb[0] s.rb[1] s.rb[2]
      (if good then s.rb[0] ++ s.rb[1] else 0xFFFF#16,
       { s with
         crcr := checksum [s.rb[0], s.rb[1]]
         err := s.err ||| (if good then 0#16 else 0x0080#16) }) := by
  have valid : (checksum [s.rb[0], s.rb[1]] == s.rb[2]) = groupValid s.rb[0] s.rb[1] s.rb[2] := rfl
  rw [finishStatus_eq, valid]
  cases groupValid s.rb[0] s.rb[1] s.rb[2] with
  | true => simp [joinWord]
  | false => rfl

theorem statusRead_of_failedWrite {s : State} (hw : writeSucceeds s 0 = false) :
    statusRead s = (0xFFFF#16, (writeCommand opStatusRead s).2) := by
  simp only [statusRead, writeCommand_fst, hw, statusSentinel]

theorem statusRead_of_otherCount {s : State} (hw : writeSucceeds s 0 = true) (hn : busAnswer s.bus 2 ≠ 3) :
    statusRead s =
      (0xFFFF#16,
       { s with
         cb := frameBuffer opStatusRead
         err := s.err ||| writeFlags (busAnswer s.bus 0) (busAnswer s.bus 1) ||| 0x0004#16
         bus := s.bus.after 3 (writeEvents s.addr opStatusRead (busAnswer s.bus 0) (busAnswer s.bus 1)
           ++ [.requestFrom s.addr 3 (busAnswer s.bus 2)]) }) := by
  have count : busAnswer (writeCommand opStatusRead s).2.bus 0 ≠ 3 := by
    simpa only [writeCommand_spec, busAnswer_after] using hn
  simp only [statusRead, writeCommand_fst, hw, readBytes_of_other_count count]
  simp only [writeCommand_spec, busAnswer_after, after_after]
  rfl

/-- Where a group comes, it stands in the first three bytes of `RB` when it is decoded. -/
theorem statusRead_of_group {s : State} (hw : writeSucceeds s 0 = true) (hn : busAnswer s.bus 2 = 3) :
    statusRead s = finishStatus
      { s with
        cb := frameBuffer opStatusRead
        rb := #v[busByte s.bus 3, busByte s.bus 4, busByte s.bus 5, s.rb[3], s.rb[4], s.rb[5]]
        err := s.err ||| writeFlags (busAnswer s.bus 0) (busAnswer s.bus 1)
        bus := s.bus.after 6 (writeEvents s.addr opStatusRead (busAnswer s.bus 0) (busAnswer s.bus 1)
          ++ [.requestFrom s.addr 3 3, .read (busByte s.bus 3), .read (busByte s.bus 4), .read (busByte s.bus 5)]) } := by
  have count : busAnswer (writeCommand opStatusRead s).2.bus 0 = 3 := by
    simpa only [writeCommand_spec, busAnswer_after] using hn
  simp only [statusRead, writeCommand_fst, hw, readBytes_three count]
  simp only [writeCommand_spec, busByte_after, after_after]

/-- Settles O30: a failed write, another count, a group. -/
theorem readStatusOutcomes : Obligations.ReadStatusOutcomes := by
  intro s
  refine ⟨fun hw h => ?_, fun hw hn h => ?_, fun hw hn h => ?_⟩
  · simp only [exec, execReadStatus, statusRead_of_failedWrite hw, writeCommand_spec]
    exact complete_deliver_of_answers h rfl _
  · simp only [exec, execReadStatus, statusRead_of_otherCount hw hn]
    exact complete_deliver_of_answers h rfl _
  · refine ⟨checksum [busByte s.bus 3, busByte s.bus 4], ?_⟩
    simp only [exec, execReadStatus, statusRead_of_group hw hn, finishStatus_spec, hn, List.append_assoc]
    exact complete_deliver_of_answers h rfl _

/-! ### READ_STATUS and USE_CRC -/

/-- No outcome of the run looks at USE_CRC. -/
theorem statusRead_withUseCrc (b : Bool) (s : State) :
    statusRead { s with useCrc := b } = ((statusRead s).1, { (statusRead s).2 with useCrc := b }) := by
  cases hw : writeSucceeds s 0 with
  | false =>
    rw [statusRead_of_failedWrite hw, statusRead_of_failedWrite (s := { s with useCrc := b }) hw, writeCommand_spec,
      writeCommand_spec]
  | true =>
    by_cases hn : busAnswer s.bus 2 = 3
    · rw [statusRead_of_group hw hn, statusRead_of_group (s := { s with useCrc := b }) hw hn, finishStatus_spec,
        finishStatus_spec]
    · rw [statusRead_of_otherCount hw hn, statusRead_of_otherCount (s := { s with useCrc := b }) hw hn]

/-- Whether an operation hangs depends on the bus alone. -/
theorem complete_of_same_bus {s s' r r' t : State} (h : complete s r = .next t) (hs : s'.bus = s.bus)
    (hr : r'.bus = r.bus) : complete s' r' = .next r' := by
  unfold complete at h ⊢
  rw [hs, hr]
  split at h
  · cases h
  · rfl

/-- Settles O52: the two runs differ in USE_CRC alone, and use the bus alike. -/
theorem statusReadIgnoresUseCrc : Obligations.StatusReadIgnoresUseCrc := by
  intro s t b h
  simp only [exec, execReadStatus, statusRead_withUseCrc] at h ⊢
  rw [complete_next h]
  exact complete_of_same_bus h rfl rfl

end Sys2Proof.Machine
end

section
/-! SINGLE_SHOT_READ, every outcome (42_measurement_ops.md R175 to R179): what its run gives where the write fails, where another
count comes, and where a frame comes. -/
namespace Sys2Proof.Machine
open Sys2Proof.Spec

/-- The delays of the three accepted opcodes (R176). -/
theorem ssDelay_eq_some {cmd : Word} {units : Nat}
    (h : cmd = 0x2400#16 ∧ units = 16 ∨ cmd = 0x240B#16 ∧ units = 7 ∨ cmd = 0x2416#16 ∧ units = 5) :
    ssDelay cmd = some units := by
  obtain ⟨rfl, rfl⟩ | ⟨rfl, rfl⟩ | ⟨rfl, rfl⟩ := h
  · rfl
  · rfl
  · rfl

/-- The write is followed by the delay alone when the frame is asked for. -/
theorem delay_writeCommand (units : Nat) (cmd : Word) (s : State) :
    delay units (writeCommand cmd s).2 =
      { s with
        cb := frameBuffer cmd
        err := s.err ||| writeFlags (busAnswer s.bus 0) (busAnswer s.bus 1)
        bus := s.bus.after 2 (writeEvents s.addr cmd (busAnswer s.bus 0) (busAnswer s.bus 1) ++ [.delay units]) } := by
  simp only [delay, emit_eq, writeCommand_spec, after_after]

theorem readBytes_six {s : State} (hn : busAnswer s.bus 0 = 6) :
    readBytes 6 s =
      (some (nextBytes s.bus 1 6),
       { s with
         rb := #v[busByte s.bus 1, busByte s.bus 2, busByte s.bus 3, busByte s.bus 4, busByte s.bus 5, busByte s.bus 6]
         bus := s.bus.after 7
          [.requestFrom s.addr 6 6, .read (busByte s.bus 1), .read (busByte s.bus 2), .read (busByte s.bus 3),
           .read (busByte s.bus 4), .read (busByte s.bus 5), .read (busByte s.bus 6)] }) := by
  rw [readBytes_of_count (by decide) hn, ← storeBytes_six s.rb]
  rfl

/-- The group of temperature and that of humidity in `RB` are both valid (R125). -/
def frameValid (s : State) : Bool := groupValid s.rb[0] s.rb[1] s.rb[2] && groupValid s.rb[3] s.rb[4] s.rb[5]

/-- A bad group, while USE_CRC is 1, delivers nothing and leaves both readings (R177). -/
theorem finishReading_of_badGroup {s : State} (hc : s.useCrc = true) (hbad : frameValid s = false) :
    ∃ c, finishReading s = (none, { s with crcr := c, err := s.err ||| 0x0080#16 }) := by
  refine ⟨checksum [s.rb[3], s.rb[4]], ?_⟩
  have hbad : (checksum [s.rb[0], s.rb[1]] == s.rb[2] && checksum [s.rb[3], s.rb[4]] == s.rb[5]) = false := hbad
  simp only [finishReading_eq, hc, hbad]
  rfl

/-- A frame that is good, or not checked, delivers the converted values and stores them (R178, R179). -/
theorem finishReading_of_goodFrame {s : State} (hgood : s.useCrc = true → frameValid s = true) :
    let v := convertCodes s.params.num s.unit (s.rb[0] ++ s.rb[1]) (s.rb[3] ++ s.rb[4])
    ∃ c, (s.useCrc = false → c = s.crcr) ∧
      finishReading s = (some v, { s with crcr := c, temperature := .written v.1, humidity := .written v.2 }) := by
  refine ⟨if s.useCrc then checksum [s.rb[3], s.rb[4]] else s.crcr, fun hc => by simp [hc], ?_⟩
  rw [finishReading_eq]
  exact if_neg (by simpa [frameValid, groupValid] using hgood)

theorem singleShot_of_failedWrite {cmd : Word} {units : Nat} (hd : ssDelay cmd = some units) {s : State}
    (hw : writeSucceeds s 0 = false) : singleShot cmd s = (none, (writeCommand cmd s).2) := by
  simp only [singleShot, hd, writeCommand_fst, hw]

theorem singleShot_of_otherCount {cmd : Word} {units : Nat} (hd : ssDelay cmd = some units) {s : State}
    (hw : writeSucceeds s 0 = true) (hn : busAnswer s.bus 2 ≠ 6) :
    singleShot cmd s =
      (none,
       { s with
         cb := frameBuffer cmd
         err := s.err ||| writeFlags (busAnswer s.bus 0) (busAnswer s.bus 1) ||| 0x0004#16
         bus := s.bus.after 3 (writeEvents s.addr cmd (busAnswer s.bus 0) (busAnswer s.bus 1)
           ++ [.delay units, .requestFrom s.addr 6 (busAnswer s.bus 2)]) }) := by
  have count : busAnswer (delay units (writeCommand cmd s).2).bus 0 ≠ 6 := by
    simpa only [delay_writeCommand, busAnswer_after] using hn
  simp only [singleShot, hd, writeCommand_fst, hw, readBytes_of_other_count count]
  simp only [delay_writeCommand, busAnswer_after, after_after, List.append_assoc]
  rfl

/-- The state in which a frame that came is decoded: the command written, the delay waited, the six bytes in `RB`. -/
def frameTaken (cmd : Word) (units : Nat) (s : State) : State :=
  { s with
    cb := frameBuffer cmd
    rb := #v[busByte s.bus 3, busByte s.bus 4, busByte s.bus 5, busByte s.bus 6, busByte s.bus 7, busByte s.bus 8]
    err := s.err ||| writeFlags (busAnswer s.bus 0) (busAnswer s.bus 1)
    bus := s.bus.after 9 (writeEvents s.addr cmd (busAnswer s.bus 0) (busAnswer s.bus 1)
      ++ [.delay units, .requestFrom s.addr 6 6, .read (busByte s.bus 3), .read (busByte s.bus 4), .read (busByte s.bus 5),
        .read (busByte s.bus 6), .read (busByte s.bus 7), .read (busByte s.bus 8)]) }

theorem singleShot_of_frame {cmd : Word} {units : Nat} (hd : ssDelay cmd = some units) {s : State}
    (hw : writeSucceeds s 0 = true) (hn : busAnswer s.bus 2 = 6) :
    singleShot cmd s = finishReading (frameTaken cmd units s) := by
  have count : busAnswer (delay units (writeCommand cmd s).2).bus 0 = 6 := by
    simpa only [delay_writeCommand, busAnswer_after] using hn
  simp only [singleShot, hd, writeCommand_fst, hw, readBytes_six count]
  simp only [delay_writeCommand, busByte_after, after_after, List.append_assoc]
  rfl

/-- Settles O29: a rejected opcode, a failed write, another count, a bad group, a good frame. -/
theorem singleShotReadOutcomes : Obligations.SingleShotReadOutcomes := by
  intro cmd s
  refine ⟨fun hhigh hmedium hlow =>
    exec_singleShotRead_rejected (by simp [opSsHigh, opSsMedium, opSsLow, hhigh, hmedium, hlow]) s, fun units hunits => ?_⟩
  have hd := ssDelay_eq_some hunits
  refine ⟨fun hw h => ?_, fun hw hn h => ?_, fun hw hn h hc hbad => ?_, fun hw hn h hgood => ?_⟩
  · simp only [exec, execSingleShotRead, singleShot_of_failedWrite hd hw, writeCommand_spec]
    exact complete_deliver_of_answers h rfl _
  · simp only [exec, execSingleShotRead, singleShot_of_otherCount hd hw hn]
    exact complete_deliver_of_answers h rfl _
  · obtain ⟨c, hfinish⟩ := finishReading_of_badGroup (s := frameTaken cmd units s) hc hbad
    refine ⟨c, ?_⟩
    simp only [exec, execSingleShotRead, singleShot_of_frame hd hw hn, hfinish, hn, List.append_assoc]
    exact complete_deliver_of_answers h rfl _
  · obtain ⟨c, hcrcr, hfinish⟩ := finishReading_of_goodFrame (s := frameTaken cmd units s) hgood
    refine ⟨c, hcrcr, ?_⟩
    simp only [exec, execSingleShotRead, singleShot_of_frame hd hw hn, hfinish, hn, List.append_assoc]
    exact complete_deliver_of_answers h rfl _

end Sys2Proof.Machine
end

section
/-! CONVERT (43_unit_conversion.md R200, R201): its formulas in exact rationals, the three roundings of a binary format, and the
range the exact values lie in. -/
namespace Sys2Proof.Machine

/-- CONVERT delivers the converted codes, and only the result changes (R200). -/
theorem exec_convert (unit : TempUnit) (t h : Word) (s : State) :
    exec (.convert unit t h) s = .next { s with result := .reading (some (convertCodes s.params.num unit t h)) } := rfl

/-- Settles O18: the formulas are those of `convertCodes_exact`. -/
theorem convertComputesTheFormulas : Obligations.ConvertComputesTheFormulas := by
  intro t h s hnum
  simp only [exec_convert, hnum, convertCodes_exact, and_self]

/-- The conversion in a binary format: the product, the quotient and the difference are each rounded (R201, log 16). -/
theorem convertCodes_binary (p : Nat) (m : RoundingMode) (unit : TempUnit) (t h : Word) :
    let rnd := roundBinary p m
    convertCodes (.binary p m) unit t h =
      (match unit with
        | .celsius => rnd (rnd (rnd ((t.toNat : Num) * 175) / 65535) - 45)
        | .fahrenheit => rnd (rnd (rnd ((t.toNat : Num) * 315) / 65535) - 49),
       rnd (rnd ((h.toNat : Num) * 100) / 65535)) := by
  cases unit <;> rfl

/-- Settles O20: the three roundings are those of `convertCodes_binary`. -/
theorem convertRoundsEachOperation : Obligations.ConvertRoundsEachOperation := by
  intro p m t h s hnum
  simp only [exec_convert, hnum, convertCodes_binary, and_self]

/-- A raw code is a fraction of full scale, 65535. -/
theorem code_mul_div_mem_Icc (w : Word) {f : Num} (hf : 0 ≤ f) : (w.toNat : Num) * f / 65535 ∈ Set.Icc 0 f := by
  have hw : (w.toNat : Num) ≤ 65535 := by exact_mod_cast Nat.le_of_lt_succ w.isLt
  exact ⟨by positivity, by rw [div_le_iff₀ (by norm_num), mul_comm]; gcongr⟩

/-- Settles O19: a code is between none and all of the span of its formula. -/
theorem convertedValuesStayInRange : Obligations.ConvertedValuesStayInRange := by
  intro t h
  obtain ⟨hc0, hc1⟩ := code_mul_div_mem_Icc t (f := 175) (by norm_num)
  obtain ⟨hf0, hf1⟩ := code_mul_div_mem_Icc t (f := 315) (by norm_num)
  simp only [convertCodes_exact]
  exact ⟨⟨by linarith, by linarith⟩, ⟨by linarith, by linarith⟩, fun _ => code_mul_div_mem_Icc h (by norm_num)⟩

end Sys2Proof.Machine
end

section
/-! In exact rationals the readings stay in range (42_measurement_ops.md R179; 43_unit_conversion.md R200): what a read stores is
the conversion of some pair of codes. -/
namespace Sys2Proof.Machine

/-- From `s` to `t` both readings stand as they stood, or both were written by converting one pair of codes (R179). -/
def WritesOnlyConverted (s t : State) : Prop :=
  KeepsReadings s t ∨ ∃ a b,
    t.temperature = .written (convertCodes s.params.num s.unit a b).1 ∧
    t.humidity = .written (convertCodes s.params.num s.unit a b).2

theorem finishReading_writesOnlyConverted (s : State) : WritesOnlyConverted s (finishReading s).2 := by
  rw [finishReading_eq]
  simp only
  split
  · exact .inl ⟨rfl, rfl⟩
  · exact .inr ⟨_, _, rfl, rfl⟩

/-- A read writes the readings only from a frame that came, and `frameTaken` keeps the unit and the number format. -/
theorem singleShot_writesOnlyConverted (cmd : Word) (s : State) : WritesOnlyConverted s (singleShot cmd s).2 := by
  cases hd : ssDelay cmd with
  | none => rw [singleShot_rejected hd]; exact .inl ⟨rfl, rfl⟩
  | some units =>
    cases hw : writeSucceeds s 0 with
    | false => rw [singleShot_of_failedWrite hd hw]; exact .inl (writeCommand_keepsReadings cmd s)
    | true =>
      by_cases hn : busAnswer s.bus 2 = 6
      · rw [singleShot_of_frame hd hw hn]; exact finishReading_writesOnlyConverted (frameTaken cmd units s)
      · rw [singleShot_of_otherCount hd hw hn]; exact .inl ⟨rfl, rfl⟩

theorem writesOnlyConverted_of_complete_singleShot {cmd : Word} {res : Result} {s t : State}
    (h : complete s (deliver res (singleShot cmd s).2) = .next t) : WritesOnlyConverted s t := by
  rw [complete_next h]
  exact singleShot_writesOnlyConverted cmd s

/-- Every instruction leaves the readings or stores converted codes: only the accepted reads write them (R179). -/
theorem exec_writesOnlyConverted {i : Instr} {s t : State} (h : exec i s = .next t) : WritesOnlyConverted s t := by
  obtain keeps | ⟨-, -, -, -, -, ⟨_, rfl, -⟩ | hi⟩ := onlySuccessfulReadsWriteTheReadings i s t h
  · exact .inl keeps
  · exact writesOnlyConverted_of_complete_singleShot h
  · simp only [List.mem_cons, List.not_mem_nil, or_false] at hi
    obtain rfl | rfl | rfl := hi
    · exact writesOnlyConverted_of_complete_singleShot h
    · exact writesOnlyConverted_of_complete_singleShot h
    · exact writesOnlyConverted_of_complete_singleShot h

/-- The exact temperature of either unit lies between the lower and the upper bounds of both. -/
theorem convertCodes_exact_temperature_mem_Icc (unit : TempUnit) (t h : Word) :
    (convertCodes .exact unit t h).1 ∈ Set.Icc (-49) 266 := by
  obtain ⟨⟨hc0, hc1⟩, hf, -⟩ := convertedValuesStayInRange t h
  cases unit with
  | celsius => exact ⟨by linarith, by linarith⟩
  | fahrenheit => exact hf

theorem construct_readingsInRange (a : BusAddr) (s : State) : (construct a s).ReadingsInRange where
  temperature x hx := by rw [construct_temperature] at hx; cases hx
  humidity x hx := by rw [construct_humidity] at hx; cases hx

/-- The readings stay in range over a run that leaves them or stores exactly converted codes. -/
theorem WritesOnlyConverted.readingsInRange {s t : State} (w : WritesOnlyConverted s t) (hnum : s.params.num = .exact)
    (hs : s.ReadingsInRange) : t.ReadingsInRange := by
  obtain ⟨ht, hh⟩ | ⟨a, b, ht, hh⟩ := w
  · exact ⟨fun x hx => hs.temperature x (ht ▸ hx), fun x hx => hs.humidity x (hh ▸ hx)⟩
  · rw [hnum] at ht hh
    refine ⟨fun x hx => ?_, fun x hx => ?_⟩
    · obtain rfl := Reading.written.inj (ht.symm.trans hx)
      exact convertCodes_exact_temperature_mem_Icc s.unit a b
    · obtain rfl := Reading.written.inj (hh.symm.trans hx)
      exact (convertedValuesStayInRange a b).2.2 s.unit

/-- Settles O44: the reset input unwrites both readings, an instruction leaves them or stores converted codes, the idle step
changes nothing. -/
theorem stepKeepsReadingsInRange : Obligations.StepKeepsReadingsInRange := by
  intro s t hnum hs h
  obtain ⟨a, -, rfl⟩ | ⟨-, _, _, i, -, -, hexec⟩ | ⟨-, -, rfl⟩ := step_cases h
  · exact construct_readingsInRange a s
  · exact (exec_writesOnlyConverted hexec).readingsInRange hnum ⟨hs.temperature, hs.humidity⟩
  · exact hs

end Sys2Proof.Machine
end

section
/-! The rounding of a binary format (43_unit_conversion.md R201; log 16): the unit in the last place is at most `|x|` scaled down
by the precision, and rounding to nearest errs by at most half of it. -/
namespace Sys2Proof.Machine

theorem pow2_eq_zpow (e : Int) : pow2 e = (2 : Num) ^ e := by
  cases e with
  | ofNat n => simp [pow2]
  | negSucc n => simp [pow2, zpow_negSucc]

/-- The binary exponent of a positive rational is a lower bound of it: with `2^a ≤ num` and `den < 2^(b+1)`, already
`2^(a-b-1)` is one. -/
theorem pow2_floorLog2_le {x : Num} (hx : 0 < x) : pow2 (floorLog2 x) ≤ x := by
  unfold floorLog2
  simp only
  split
  · assumption
  · have hnum : (2 : Num) ^ x.num.natAbs.log2 ≤ x.num.natAbs := by
      exact_mod_cast Nat.log2_self_le (Int.natAbs_ne_zero.2 (Rat.num_pos.2 hx).ne')
    have hden : (x.den : Num) ≤ 2 ^ (x.den.log2 + 1) := by exact_mod_cast Nat.lt_log2_self.le
    have hden0 : (0 : Num) < x.den := by exact_mod_cast x.den_pos
    calc pow2 ((x.num.natAbs.log2 : Int) - x.den.log2 - 1)
        = 2 ^ x.num.natAbs.log2 / 2 ^ (x.den.log2 + 1) := by
          rw [pow2_eq_zpow, sub_sub, zpow_sub₀ two_ne_zero]; norm_cast
      _ ≤ x.num.natAbs / x.den := by gcongr
      _ = x := by
          rw [Nat.cast_natAbs, abs_of_pos (Rat.num_pos.2 hx), Rat.num_div_den]

/-- The nearest integer is at most one half away. -/
theorem abs_roundInt_nearestEven_sub_le (x : Num) : |(roundInt .nearestEven x : Num) - x| ≤ 1 / 2 := by
  have h0 : (x.floor : Num) ≤ x := Int.floor_le x
  have h1 : x < x.floor + 1 := Int.lt_floor_add_one x
  rw [abs_le]
  unfold roundInt
  simp only
  split_ifs
  · constructor <;> linarith
  · push_cast; constructor <;> linarith
  · constructor <;> linarith
  · push_cast; constructor <;> linarith

/-- The unit in the last place of a `precision`-bit significand at `x`. -/
def ulp (precision : Nat) (x : Num) : Num := pow2 (floorLog2 |x| - precision + 1)

theorem ulp_pos (p : Nat) (x : Num) : 0 < ulp p x := by
  rw [ulp, pow2_eq_zpow]; positivity

theorem roundBinary_of_ne_zero (p : Nat) (m : RoundingMode) {x : Num} (hx : x ≠ 0) :
    roundBinary p m x = roundInt m (x / ulp p x) * ulp p x := by
  have habs : (if x < 0 then -x else x) = |x| := by
    split
    · next h => rw [abs_of_neg h]
    · next h => rw [abs_of_nonneg (not_lt.1 h)]
  simp only [roundBinary, if_neg hx, habs, ulp]

theorem half_ulp_mul_two_pow_le (p : Nat) {x : Num} (hx : x ≠ 0) : 1 / 2 * ulp p x * 2 ^ p ≤ |x| := by
  calc 1 / 2 * ulp p x * 2 ^ p = pow2 (floorLog2 |x|) := by
        rw [ulp, pow2_eq_zpow, pow2_eq_zpow, zpow_add_one₀ two_ne_zero, zpow_sub₀ two_ne_zero, zpow_natCast]
        field_simp
    _ ≤ |x| := pow2_floorLog2_le (abs_pos.2 hx)

/-- Settles O21: the error is that of the nearest integer, at most one half, in units of the last place. -/
theorem roundingErrorIsBounded : Obligations.RoundingErrorIsBounded := by
  intro p x
  by_cases hx : x = 0
  · simp [hx, roundBinary]
  · have hu := ulp_pos p x
    have herr : roundBinary p .nearestEven x - x = (roundInt .nearestEven (x / ulp p x) - x / ulp p x) * ulp p x := by
      rw [roundBinary_of_ne_zero p _ hx, sub_mul, div_mul_cancel₀ x hu.ne']
    calc |roundBinary p .nearestEven x - x| * 2 ^ p
        = |(roundInt .nearestEven (x / ulp p x) : Num) - x / ulp p x| * ulp p x * 2 ^ p := by
          rw [herr, abs_mul, abs_of_pos hu]
      _ ≤ 1 / 2 * ulp p x * 2 ^ p := by gcongr; exact abs_roundInt_nearestEven_sub_le _
      _ ≤ |x| := half_ulp_mul_two_pow_le p hx

end Sys2Proof.Machine
end

section
/-! The error accumulator (44_error_accumulator.md R210 to R212): raising sets one bit, only the drain and reset clear any. -/
namespace Sys2Proof.Machine

/-- Every flag's bit lies within the nine bits of the table (R23). -/
theorem errBit_lt (f : Flag) : errBit f < 9 := by cases f <;> decide

/-- The flags in the order of the table (R23): the flag of each bit. -/
def flagTable : List Flag :=
  [.transmissionLen, .endTransmission, .requestLen, .writeLen, .wrongSensorId, .fmTimeout, .notConnected, .crcCheck, .wrongCommand]

theorem flagTable_errBit (f : Flag) : flagTable[errBit f]? = some f := by cases f <;> rfl

/-- The table gives no bit to two flags: each flag is found again at its bit. -/
theorem errBit_injective : Function.Injective errBit := by
  intro f g h
  exact Option.some.inj (by rw [← flagTable_errBit f, h, flagTable_errBit g])

theorem flagMask_bit (f : Flag) (k : Nat) : (flagMask f).getLsbD k = decide (k = errBit f) := by
  have hf : errBit f < 16 := (errBit_lt f).trans (by decide)
  rw [flagMask, ← BitVec.twoPow_eq, BitVec.getLsbD_twoPow]
  simp [hf, eq_comm]

/-- Settles O35: the flag's mask is its bit alone, and `raise` is a write of ERR. -/
theorem raiseSetsExactlyItsBit : Obligations.RaiseSetsExactlyItsBit := by
  refine ⟨fun f s k => ?_, fun _ _ => rfl, fun _ _ h => errBit_injective h, rfl⟩
  rw [raise_err, BitVec.getLsbD_or, flagMask_bit]

/-- Settles O34: the drain takes no answer, so it ends in the state it writes. -/
theorem getLastErrorDrains : Obligations.GetLastErrorDrains := fun _ => rfl

/-- An instruction other than the drain clears no bit of `ERR`: it only ORs flags in, or leaves the mask. -/
theorem exec_err_sticky {i : Instr} {s t : State} (h : exec i s = .next t) (hi : i ≠ .getLastError) {k : Nat}
    (hk : s.err.getLsbD k = true) : t.err.getLsbD k = true := by
  obtain e | ⟨_, _, -, rfl⟩ | ⟨hdrain, -⟩ := exec_effect h
  · obtain ⟨flags, -, herr⟩ := e.err
    rw [herr, BitVec.getLsbD_or, hk, Bool.true_or]
  · exact hk
  · exact absurd hdrain hi

/-- Settles O36: there is no reset input, an instruction other than the drain keeps every bit, the idle step changes nothing. -/
theorem errorBitsAreSticky : Obligations.ErrorBitsAreSticky := by
  intro s t h hreset hdrain k hk
  obtain ⟨a, ha, -⟩ | ⟨-, r, rest, i, hreq, hdec, hexec⟩ | ⟨-, -, rfl⟩ := step_cases h
  · rw [hreset] at ha
    cases ha
  · have hi : i ≠ .getLastError := by
      rintro rfl
      exact hdrain r (by rw [hreq, List.head?_cons, Option.mem_some]) hdec
    exact exec_err_sticky hexec hi (by rwa [dropRequest_err])
  · exact hk

end Sys2Proof.Machine
end

section
/-! How an instruction can end (60_exceptions.md R220, R224): it completes, hangs on an answer that never comes (41_transport_ops.md
R142), or is the READ_BYTES that R92 refuses. -/
namespace Sys2Proof.Machine

theorem not_answers_iff (s : State) (n : Nat) :
    ¬ s.Answers n ↔ ∃ m, s.bus.silentFrom = some m ∧ m < s.bus.answered + n := by
  simp only [State.Answers, not_forall, exists_prop, Nat.not_le]

theorem Effect.answered_le_add {s t : State} {most : Nat} (h : Effect s t most) :
    t.bus.answered ≤ s.bus.answered + most := by
  obtain ⟨n, es, hn, hbus, -⟩ := h.bus
  rw [hbus, after_answered]
  exact Nat.add_le_add_left hn _

/-- The outcome of an operation begun in `s` is a next state, or the hang where one of the next nine answers never comes. -/
def CompletesOrHangs (s : State) (o : Host.Outcome State Fault Refusal) : Prop :=
  (∃ t, o = .next t) ∨ o = .fault .transportHang ∧ ¬ s.Answers 9

/-- A run of at most nine answers hangs only on one of the next nine. -/
theorem completesOrHangs_of_effect {s r : State} {most : Nat} (hr : Effect s r most) (hmost : most ≤ 9) (res : Result) :
    CompletesOrHangs s (complete s (deliver res r)) := by
  obtain hnext | ⟨hfault, m, hm, -, hlt⟩ := complete_cases s (deliver res r)
  · exact .inl ⟨_, hnext⟩
  · have := hr.answered_le_add
    rw [deliver_bus] at hlt
    exact .inr ⟨hfault, (not_answers_iff s 9).2 ⟨m, hm, by omega⟩⟩

theorem PureOperation.completesOrHangs {i : Instr} (hi : PureOperation i) (s : State) : CompletesOrHangs s (exec i s) := by
  obtain ⟨res, hres⟩ := hi s.params
  obtain ⟨c, hc⟩ := hres s rfl
  exact .inl ⟨_, hc⟩

/-- Every way an instruction can end. -/
theorem exec_cases (i : Instr) (s : State) :
    CompletesOrHangs s (exec i s) ∨
    ∃ n, i = .readBytes n ∧ 6 < n ∧ exec i s = .refused (.malformed (.readTooLong n)) := by
  cases i with
  | setDefaults | getLastError => exact .inl (.inl ⟨_, rfl⟩)
  | encode => exact .inl ((pureOperation_encode _).completesOrHangs s)
  | checksum => exact .inl ((pureOperation_checksum _).completesOrHangs s)
  | verifyGroup => exact .inl ((pureOperation_verifyGroup _ _ _).completesOrHangs s)
  | decodeStatus => exact .inl ((pureOperation_decodeStatus _ _ _).completesOrHangs s)
  | decodeMeas => exact .inl ((pureOperation_decodeMeas _ _ _ _ _ _ _).completesOrHangs s)
  | convert => exact .inl ((pureOperation_convert _ _ _).completesOrHangs s)
  | isConnected => exact .inl (completesOrHangs_of_effect (probe_effect s) (by decide) _)
  | begin => exact .inl (completesOrHangs_of_effect (beginSensor_effect s) (by decide) _)
  | reset | cmdSoftReset | cmdGeneralCallReset =>
    exact .inl (completesOrHangs_of_effect (resetSensor_effect _ s) (by decide) _)
  | singleShotRead | cmdSsHigh | cmdSsMedium | cmdSsLow | cmdSsStretch0 | cmdSsStretch1 | cmdSsStretch2 =>
    exact .inl (completesOrHangs_of_effect (singleShot_effect _ s) (by decide) _)
  | readStatus | cmdStatusRead => exact .inl (completesOrHangs_of_effect (statusRead_effect s) (by decide) _)
  | writeCommand | clearStatus | cmdStatusClear =>
    exact .inl (completesOrHangs_of_effect (writeCommand_effect _ s) (by decide) _)
  | readBytes n =>
    by_cases hn : n ≤ 6
    · rw [exec_readBytes_of_le hn]
      exact .inl (completesOrHangs_of_effect (readBytes_effect n s) (by omega) _)
    · obtain ⟨hrefused, -⟩ := readBytesTakesExactlyTheCount n s
      exact .inr ⟨n, rfl, Nat.not_le.1 hn, hrefused (Nat.not_le.1 hn)⟩

/-- Settles O39: the nine answers rule out the hang, well-formedness the refusal. -/
theorem everyOperationCompletes : Obligations.EveryOperationCompletes := by
  intro i s hwf h
  obtain (hnext | ⟨-, hsilent⟩) | ⟨n, rfl, hn, -⟩ := exec_cases i s
  · exact hnext
  · exact absurd h hsilent
  · exact absurd (of_decide_eq_true hwf) (Nat.not_le.2 hn)

/-- Settles O40: of the ways to end, the hang alone is a fault and the refused READ_BYTES alone a refusal. -/
theorem operationsStopOnlyAsSpecified : Obligations.OperationsStopOnlyAsSpecified := by
  intro i s
  have ends := exec_cases i s
  refine ⟨fun f h => ?_, fun r h => ?_⟩
  · rw [h] at ends
    obtain (⟨_, ⟨⟩⟩ | ⟨hfault, hsilent⟩) | ⟨_, _, _, ⟨⟩⟩ := ends
    exact ⟨Host.Outcome.fault.inj hfault, (not_answers_iff s 9).1 hsilent⟩
  · rw [h] at ends
    obtain (⟨_, ⟨⟩⟩ | ⟨⟨⟩, _⟩) | ⟨n, hi, hn, hrefused⟩ := ends
    exact ⟨n, hi, hn, Host.Outcome.refused.inj hrefused⟩

end Sys2Proof.Machine
end

section
/-! The reset input (70_reset_and_hazards.md R250). -/
namespace Sys2Proof.Machine

/-- The reset input comes before any request (log 14). -/
theorem step_of_resetInput {s : State} {a : BusAddr} (ha : s.resetInput = some a) : step s = .next (construct a s) := by
  have hin : nextInput s = .resetAsserted a := by simp only [nextInput, ha]
  simp only [step, hin]

/-- Settles O7: the step takes the reset input, and each clause is a field of `construct`. -/
theorem resetInputConstructs : Obligations.ResetInputConstructs := fun s a ha =>
  ⟨construct a s, step_of_resetInput ha, construct_addr a s, construct_err a s, construct_useCrc a s, construct_unit a s,
    construct_temperature a s, construct_humidity a s, construct_draws a s, construct_bus a s, construct_params a s,
    construct_resetInput a s, construct_requests a s⟩

end Sys2Proof.Machine
end

section
/-! The operations that act on the sensor leave the block (70_reset_and_hazards.md R251; 42_measurement_ops.md R170): their runs
add flags to ERR and write CB, and nothing else of the block. -/
namespace Sys2Proof.Machine

/-- Only `ERR` gained flags, and only `CB`, the bus and the result may hold something else. -/
def LeavesBlock (s t : State) : Prop :=
  ∃ flags cb bus result, t = { s with err := s.err ||| flags, cb := cb, bus := bus, result := result }

theorem LeavesBlock.trans {s t u : State} : LeavesBlock s t → LeavesBlock t u → LeavesBlock s u := by
  rintro ⟨f, _, _, _, rfl⟩ ⟨g, cb, bus, result, rfl⟩
  exact ⟨f ||| g, cb, bus, result, by simp only [BitVec.or_assoc]⟩

theorem raise_leavesBlock (f : Flag) (s : State) : LeavesBlock s (raise f s) := ⟨flagMask f, s.cb, s.bus, s.result, rfl⟩

theorem emit_leavesBlock (e : Event) (s : State) : LeavesBlock s (emit e s) :=
  ⟨0#16, s.cb, (emit e s).bus, s.result, by rw [BitVec.or_zero]; rfl⟩

theorem writeCommand_leavesBlock (cmd : Word) (s : State) : LeavesBlock s (writeCommand cmd s).2 := by
  rw [writeCommand_eq]
  exact ⟨_, _, _, s.result, rfl⟩

theorem probe_leavesBlock (s : State) : LeavesBlock s (probe s).2 := by
  rw [probe_eq]
  exact ⟨_, s.cb, _, s.result, rfl⟩

/-- The state RESET ends in: the opcode is rejected, or the first write ends the operation, or the frame is written twice. -/
theorem resetSensor_state_cases (cmd : Word) (s : State) :
    (resetSensor cmd s).2 = raise .wrongCommand s ∨
    (resetSensor cmd s).2 = (writeCommand cmd s).2 ∨
    (resetSensor cmd s).2 = (writeCommand cmd (writeCommand cmd s).2).2 := by
  cases hcmd : isResetOpcode cmd with
  | false => exact .inl (by rw [resetSensor_rejected hcmd])
  | true =>
    by_cases hgoesOn : s.params.resetFirstWrite = .abort → writeSucceeds s 0 = true
    · exact .inr (.inr (by rw [resetSensor_twice hcmd hgoesOn]))
    · obtain ⟨hp, hfail⟩ := Classical.not_imp.1 hgoesOn
      exact .inr (.inl (by rw [resetSensor_aborted hcmd hp (Bool.eq_false_of_not_eq_true hfail)]))

theorem resetSensor_leavesBlock (cmd : Word) (s : State) : LeavesBlock s (resetSensor cmd s).2 := by
  obtain hrej | honce | htwice := resetSensor_state_cases cmd s
  · rw [hrej]
    exact raise_leavesBlock _ s
  · rw [honce]
    exact writeCommand_leavesBlock cmd s
  · rw [htwice]
    exact (writeCommand_leavesBlock cmd s).trans (writeCommand_leavesBlock cmd _)

theorem beginSensor_leavesBlock (s : State) : LeavesBlock s (beginSensor s).2 :=
  ((emit_leavesBlock .begin s).trans (emit_leavesBlock (.setClock Config.busHz) _)).trans (resetSensor_leavesBlock _ _)

theorem leavesBlock_of_complete {s r t : State} {res : Result} (h : complete s (deliver res r) = .next t)
    (hr : LeavesBlock s r) : LeavesBlock s t := by
  obtain ⟨flags, cb, bus, _, rfl⟩ := hr
  exact ⟨flags, cb, bus, res, complete_next h⟩

/-- Settles O47: each of the eight is the run of RESET, BEGIN, WRITE_COMMAND or the probe, with its result delivered. -/
theorem sensorResetsLeaveTheBlock : Obligations.SensorResetsLeaveTheBlock := by
  intro i s t h hi
  suffices leaves : LeavesBlock s t by
    obtain ⟨flags, _, _, _, rfl⟩ := leaves
    exact ⟨flags, rfl⟩
  simp only [List.mem_cons, List.not_mem_nil, or_false] at hi
  obtain ⟨cmd, rfl⟩ | ⟨cmd, rfl⟩ | rfl | rfl | rfl | rfl | rfl | rfl := hi
  · exact leavesBlock_of_complete h (resetSensor_leavesBlock cmd s)
  · exact leavesBlock_of_complete h (writeCommand_leavesBlock cmd s)
  · exact leavesBlock_of_complete h (beginSensor_leavesBlock s)
  · exact leavesBlock_of_complete h (writeCommand_leavesBlock opStatusClear s)
  · exact leavesBlock_of_complete h (probe_leavesBlock s)
  · exact leavesBlock_of_complete h (resetSensor_leavesBlock opSoftReset s)
  · exact leavesBlock_of_complete h (resetSensor_leavesBlock opGeneralCallReset s)
  · exact leavesBlock_of_complete h (writeCommand_leavesBlock opStatusClear s)

end Sys2Proof.Machine
end

section
/-! READ_STATUS without a flag (70_reset_and_hazards.md R262): a failed write, another count and an invalid group each raise one,
so only a valid group is left. -/
namespace Sys2Proof.Machine
open Sys2Proof.Spec

theorem writeFlags_eq_zero_iff (k st : Nat) : writeFlags k st = 0#16 ↔ 2 ≤ k ∧ st = 0 := by
  have short : (if k < 2 then 0x0008#16 else 0#16) = 0#16 ↔ 2 ≤ k := by
    split <;> simp <;> omega
  have status : (if st = 0 then 0#16 else 0x0002#16) = 0#16 ↔ st = 0 := by simp
  rw [writeFlags, BitVec.or_eq_zero_iff, short, status]

/-- A command write that raises no flag succeeds. -/
theorem writeSucceeds_of_writeFlags_eq_zero {s : State} {j : Nat}
    (h : writeFlags (busAnswer s.bus j) (busAnswer s.bus (j + 1)) = 0#16) : writeSucceeds s j = true := by
  obtain ⟨hk, hst⟩ := (writeFlags_eq_zero_iff _ _).1 h
  simp only [writeSucceeds, writeResult, hk, hst, if_true, decide_true]

/-- The word a run gives is the one the first two bytes of `RB` make, under a valid checksum in the third (R262). -/
def GenuineStatus (r : Word × State) : Prop :=
  r.1 = r.2.rb[0] ++ r.2.rb[1] ∧ groupValid r.2.rb[0] r.2.rb[1] r.2.rb[2] = true

/-- A group that raises CRC_CHECK leaves a flag, so the one decoded was valid. -/
theorem finishStatus_genuine {s : State} (h : (finishStatus s).2.err = 0#16) : GenuineStatus (finishStatus s) := by
  rw [finishStatus_spec] at h ⊢
  cases hgood : groupValid s.rb[0] s.rb[1] s.rb[2] with
  | true => exact ⟨rfl, hgood⟩
  | false =>
    obtain ⟨-, hflag⟩ := BitVec.or_eq_zero_iff.1 h
    simp [hgood] at hflag

/-- A failed write and another count leave a flag, so a group came and was decoded. -/
theorem statusRead_genuine {s : State} (h : (statusRead s).2.err = 0#16) : GenuineStatus (statusRead s) := by
  cases hw : writeSucceeds s 0 with
  | false =>
    rw [statusRead_of_failedWrite hw, writeCommand_spec] at h
    obtain ⟨-, hflags⟩ := BitVec.or_eq_zero_iff.1 h
    rw [writeSucceeds_of_writeFlags_eq_zero hflags] at hw
    cases hw
  | true =>
    by_cases hn : busAnswer s.bus 2 = 3
    · rw [statusRead_of_group hw hn] at h ⊢
      exact finishStatus_genuine h
    · rw [statusRead_of_otherCount hw hn] at h
      obtain ⟨-, hflag⟩ := BitVec.or_eq_zero_iff.1 h
      cases hflag

/-- Settles O51: the operation ends in the state of its run, with its word delivered. -/
theorem statusWithoutFlagIsGenuine : Obligations.StatusWithoutFlagIsGenuine := by
  intro s t h _ ht
  obtain rfl := complete_next h
  obtain ⟨hword, hvalid⟩ := statusRead_genuine ht
  exact ⟨congrArg Result.word hword, hvalid⟩

end Sys2Proof.Machine
end
